-- ==== Sys2Proof/Word.lean ====
section
/-! DEFINITION. The byte of both links and the numbers of the engine's objects (00_scope.md, Handles and numbers). -/
namespace Sys2Proof

/-- One byte of the host link or the instrument link. -/
abbrev Byte := BitVec 8
/-- The number of a record slot, 0..47. -/
abbrev Handle := Fin 48
/-- The number of a grid bank, 0..23. -/
abbrev BankId := Fin 24
/-- The number of a staging context, 0..3. -/
abbrev ContextId := Fin 4
/-- The number of a video lane, 0..1. -/
abbrev LaneId := Fin 2
/-- The number of a printer slot, 0..3. -/
abbrev SlotId := Fin 4
/-- The number of an instrument channel, 0..5: HEAD0..HEAD3, then PROBE0..PROBE1. -/
abbrev ChannelId := Fin 6
/-- The number of a client, 0..7. -/
abbrev ClientId := Fin 8

end Sys2Proof
end

