-- ==== Sys2Proof/Syntax.lean ====
section
/-! DEFINITION. The commands: one constructor per row of spec/opcode_table.json. A request row is a sound request
frame of its kind: the client number of its header and its body bytes (R171, R188), so that every form refusal of
R178 and R186 is decided from bytes. READ_LANE, READ_SLOT, READ_CHANNEL share kind 0x43 and ACK_INDICATIONS,
SET_ENABLES share kind 0x81: those carry the body after the byte that tells them apart. -/
namespace Sys2Proof

/-- A frame as the host clocks it between SEL_N's assertion and its release (R170). -/
structure HostFrame where
  /-- The whole bytes received. -/
  bytes : List Byte
  /-- SCK edges follow the last whole byte and complete no further byte (R171: SHORT and LONG). -/
  extraEdges : Bool
  /-- R170: present when the frame overlaps a reset procedure, from its start to the end of its hold, and the port
  therefore drops or ignores it: how many of its whole bytes were clocked outside that time, with SDO driven. That the
  frame says so itself is log 15 (DESIGN CHOICE). -/
  overlap : Option Nat
  deriving DecidableEq, Repr

/-- The causes of a discard that the kind of byte, the channel byte and the check byte decide (R91). -/
inductive MessageFault
  | check | kind | channel
  deriving DecidableEq, Repr

/-- The four reset sources that have a condition (R162). -/
inductive ResetCondition
  | powerOn | supplyLow | coreClockFail | pin
  deriving DecidableEq, Repr

/-- One command, one whole event (spec/95_what_each_step_holds.md). -/
inductive Instr
  /-- CREATE_RECORD (R10 to R12); body: kind code, media code, variant, presence mask, [change set], [lookup set]. -/
  | createRecord (client : Byte) (body : List Byte)
  /-- FIND_RECORD (R13); body: kind code, media code, variant. -/
  | findRecord (client : Byte) (body : List Byte)
  /-- READ_RECORD (R14); body: handle. -/
  | readRecord (client : Byte) (body : List Byte)
  /-- SET_ACCESS (R15); body: handle, change set, lookup set. -/
  | setAccess (client : Byte) (body : List Byte)
  /-- RETIRE_RECORD (R16 to R22); body: handle. -/
  | retireRecord (client : Byte) (body : List Byte)
  /-- BEGIN_GRID (R34, R35); body: handle. -/
  | beginGrid (client : Byte) (body : List Byte)
  /-- GRID_CHUNK (R36, R37); body: handle, first node, number of values, the triples. -/
  | gridChunk (client : Byte) (body : List Byte)
  /-- COMMIT_GRID (R41); body: handle. -/
  | commitGrid (client : Byte) (body : List Byte)
  /-- ABANDON_GRID (R38); body: handle. -/
  | abandonGrid (client : Byte) (body : List Byte)
  /-- READ_POOL (R47); body: none. -/
  | readPool (client : Byte) (body : List Byte)
  /-- READ_NODE (R48); body: handle, node index. -/
  | readNode (client : Byte) (body : List Byte)
  /-- TRANSLATE (R65 to R67); body: mode, one or two handles, input triple. -/
  | translate (client : Byte) (body : List Byte)
  /-- SET_TRIM (R61, R62); body: handle, L gain, L, a, b offsets. -/
  | setTrim (client : Byte) (body : List Byte)
  /-- BIND_LANE (R74, R75); body: lane, display handle, [paper handle]. -/
  | bindLane (client : Byte) (body : List Byte)
  /-- UNBIND_LANE (R76); body: lane. -/
  | unbindLane (client : Byte) (body : List Byte)
  /-- SET_LANE_POLICY (R77); body: lane, policy. -/
  | setLanePolicy (client : Byte) (body : List Byte)
  /-- READ_LANE (R86); kind 0x43, unit class 0x00; the body after the class byte: lane. -/
  | readLane (client : Byte) (rest : List Byte)
  /-- READ_SLOT (R148); kind 0x43, unit class 0x01; the body after the class byte: slot. -/
  | readSlot (client : Byte) (rest : List Byte)
  /-- READ_CHANNEL (R108); kind 0x43, unit class 0x02; the body after the class byte: channel. -/
  | readChannel (client : Byte) (rest : List Byte)
  /-- SET_HEAD_CORRECTION (R95, R96); body: channel, L gain, L offset, a gain, a offset, b gain, b offset. -/
  | setHeadCorrection (client : Byte) (body : List Byte)
  /-- SET_PATCHES (R115, R116); body: handle, count, the triples, [white patch index]. -/
  | setPatches (client : Byte) (body : List Byte)
  /-- SET_NOMINAL_WHITE (R117); body: handle, [Lab triple]. -/
  | setNominalWhite (client : Byte) (body : List Byte)
  /-- SET_MATCH_SETTINGS (R119, R120); body: handle, the eleven settings. -/
  | setMatchSettings (client : Byte) (body : List Byte)
  /-- REVERIFY (R134); body: handle. -/
  | reverify (client : Byte) (body : List Byte)
  /-- CLEAR_HOLD (R135); body: handle. -/
  | clearHold (client : Byte) (body : List Byte)
  /-- READ_COUNTERS (R136); body: handle. -/
  | readCounters (client : Byte) (body : List Byte)
  /-- SET_SLOT_PAPER (R144, R145); body: slot, [handle]. -/
  | setSlotPaper (client : Byte) (body : List Byte)
  /-- SET_SLOT_LINE (R146); body: slot, override, T1, T2. -/
  | setSlotLine (client : Byte) (body : List Byte)
  /-- READ_NOTICES (R155); body: none. -/
  | readNotices (client : Byte) (body : List Byte)
  /-- ACK_INDICATIONS (R156, R157); kind 0x81, operation 0x01; the body after the operation byte: source class, source number, indication set. -/
  | ackIndications (client : Byte) (rest : List Byte)
  /-- SET_ENABLES (R156, R159); kind 0x81, operation 0x02; the body after the operation byte: source class, source number, indication set. -/
  | setEnables (client : Byte) (rest : List Byte)
  /-- SET_CLIENT (R177); body: client number, strict flag, admin flag. -/
  | setClient (client : Byte) (body : List Byte)
  /-- CLEAR_TABLES (R182, R183); body: none. -/
  | clearTables (client : Byte) (body : List Byte)
  /-- RESTART (R184, R169); body: none. -/
  | restart (client : Byte) (body : List Byte)
  /-- REQUEST_FRAME_DISCARD (R171, R172): SEL_N is released over these bytes; the port judges the frame (log 7). -/
  | requestFrameDiscard (frame : HostFrame)
  /-- FETCH (R173): a fetch frame; the bytes the host clocks after the type byte 0x6C, the check byte first. -/
  | fetch (after : List Byte)
  /-- CHECK_COMPLETES (R42 to R45): the running commit check completes. -/
  | checkCompletes
  /-- STAGING_EXPIRY (R39): the context's 5 s timer runs out. -/
  | stagingExpiry (context : ContextId)
  /-- FRAME_START (R70, R78 to R81): a frame start reaches the lane. -/
  | frameStart (lane : LaneId)
  /-- REFERENCE_CHANGE (R31): the Grid Pool takes the lane's oldest reference change. -/
  | referenceChange (lane : LaneId)
  /-- SIGNAL_LOSS (R71): the lane's 100 ms signal timer runs out. -/
  | signalLoss (lane : LaneId)
  /-- STRIP_OPEN (R97, R98): a STRIP_OPEN message is taken. -/
  | stripOpen (channel : ChannelId) (count : Byte)
  /-- READING (R99, R100): a READING message is taken; L unsigned, a and b signed, quality 0x01 GOOD (R189). -/
  | reading (channel : ChannelId) (index : Byte) (L a b : BitVec 16) (quality : Byte)
  /-- STRIP_CLOSE (R101 to R103): a STRIP_CLOSE message is taken. -/
  | stripClose (channel : ChannelId)
  /-- INACTIVITY_EXPIRY (R104): the channel's 2 s inactivity timer runs out. -/
  | inactivityExpiry (channel : ChannelId)
  /-- MESSAGE_DISCARD (R91): an instrument message is discarded with CHANNEL, KIND or CHECK. -/
  | messageDiscard (cause : MessageFault)
  /-- GAP_TIMER_EXPIRY (R91): the receiver's gap timer runs out. -/
  | gapTimerExpiry
  /-- LINE_TIMER_EXPIRY (R142): the slot's line timer runs out. -/
  | lineTimerExpiry (slot : SlotId)
  /-- POWER_ON_ONSET (R162). -/
  | powerOnOnset
  /-- SUPPLY_LOW_ONSET (R162). -/
  | supplyLowOnset
  /-- CORE_CLOCK_FAIL_ONSET (R163). -/
  | coreClockFailOnset
  /-- PIN_ONSET (R163). -/
  | pinOnset
  /-- CONDITION_END (R164): the named condition ends. -/
  | conditionEnd (condition : ResetCondition)
  /-- HOLD_TIMER_EXPIRY (R168): the procedure's hold timer runs out. -/
  | holdTimerExpiry
  /-- RECEIVED_BYTE (R89 to R91): one byte is received on IRX. -/
  | receivedByte (byte : Byte)
  deriving DecidableEq, Repr

end Sys2Proof
end

