-- ==== Sys2Proof/Decode.lean ====
section
/-! DEFINITION. The opcode table gives no row any bits ("fields": [] in every row, no match and no mask), so no
table word spells a command. The byte layouts of R186 to R189 are read in Machine/Operands.lean, Machine/Link.lean
and Machine/Receiver.lean. -/
namespace Sys2Proof

/-- The command a table word spells: none, since the table gives no row bits. -/
def decodeTableWord (_nbits _w : Nat) : Option Instr := none

end Sys2Proof
end

