-- ==== Sys2Proof/Config.lean ====
section
/-! DEFINITION. The figures the manual fixes. Times are in ms, delays of the proof-valid lines in units of 10 ms.
No free value stands here: the manual leaves no result open (NOTES.md). -/
namespace Sys2Proof.Config

/-- R39: the staging expiry, 5 s. -/
def stagingMs : Nat := 5000
/-- R41: the commit check completes within 3 ms. -/
def checkMs : Nat := 3
/-- R70: the signal timer, 100 ms. -/
def signalMs : Nat := 100
/-- R89: the gap timer, 2 ms. -/
def gapMs : Nat := 2
/-- R98, R99: the inactivity timer, 2 s. -/
def inactivityMs : Nat := 2000
/-- R142: one unit of a proof-valid delay, 10 ms. -/
def delayUnitMs : Nat := 10
/-- R146: the largest delay, in units. -/
def delayMax : Nat := 6000
/-- R139: T1 after reset. -/
def t1Reset : Nat := 100
/-- R139: T2 after reset. -/
def t2Reset : Nat := 300
/-- R164: the hold of priorities 1 and 2. -/
def longHoldMs : Nat := 200
/-- R164: the hold of priorities 3 and 4. -/
def shortHoldMs : Nat := 2
/-- R171: the largest body of a request frame. -/
def bodyMax : Nat := 200
/-- R25: the nodes of a grid. -/
def nodes : Nat := 729
/-- R123: where a strip counter saturates. -/
def counterMax : Nat := 65535
/-- R125: the strips of the excessive-error window. -/
def windowLength : Nat := 8
/-- R129: how far two white readings may differ in a component. -/
def whiteAgreement : Nat := 50

end Sys2Proof.Config
end

