-- ==== Sys2Proof/Machine/State.lean ====
section
/-! DEFINITION. The engine's state, block by block, as plain data, and its value right after reset.
INVENTORY.md lists every piece with the rule that names it. Three views have their one home elsewhere and are
computed in Machine/Ops.lean: a bank's holder set, a channel's attachment, the levels of PVAL and ATTN (log 9). -/
namespace Sys2Proof.Machine

/-- The engine never stops: no rule of the manual ends its running, so no meaning faults. -/
inductive Fault
  deriving DecidableEq, Repr

/-- Why a command has no outcome. -/
inductive Refusal
  /-- A row of the opcode table without a meaning yet; raised by exec's own arm only; safe. No arm answers it. -/
  | notModelled (mnemonic : String)
  deriving DecidableEq, Repr

/-! ## Colours (00_scope.md, Colour values) -/

/-- A triple: a device triple (R, G, B) or a Lab triple (L, a, b); which one its place says (R25, R113). -/
structure Triple where
  x : Int
  y : Int
  z : Int
  deriving DecidableEq, Repr

/-- The zero triple: Lab 0, 0, 0 or device 0, 0, 0 (R29). -/
def Triple.zero : Triple := ⟨0, 0, 0⟩

/-- The trim of a paper record (R58). -/
structure Trim where
  gainL : Int
  offL : Int
  offA : Int
  offB : Int
  deriving DecidableEq, Repr

/-- R11: zero trim, gain 0 and offsets 0, 0, 0. -/
def Trim.zero : Trim := ⟨0, 0, 0, 0⟩

/-- The head correction of a channel (R63). -/
structure Correction where
  gainL : Int
  offL : Int
  gainA : Int
  offA : Int
  gainB : Int
  offB : Int
  deriving DecidableEq, Repr

/-- R93: the correction after reset. -/
def Correction.zero : Correction := ⟨0, 0, 0, 0, 0, 0⟩

/-! ## Record Table (R1 to R5, section 1.2) -/

inductive Kind
  | paper | display
  deriving DecidableEq, Repr

/-- R3: the identity of a record. -/
structure Key where
  kind : Kind
  media : Nat
  variant : Nat
  deriving DecidableEq, Repr

/-- R112. -/
inductive MatchState
  | unverified | matched | suspect | lost
  deriving DecidableEq, Repr

/-- R118: the settings both kinds hold; the white limit and trim follow stand in `PaperFields`. -/
structure Settings where
  acquire : Nat
  loss : Nat
  autoReacquire : Bool
  pinned : Bool
  patchLimit : Nat
  tolerance : Nat
  excessive : Nat
  excessForcesLoss : Bool
  clearOnRead : Bool
  deriving DecidableEq, Repr

/-- The defaults of section 1.2. -/
def Settings.default : Settings := ⟨2, 3, true, false, 300, 1, 12, true, false⟩

/-- The fields only a PAPER record holds (R4). -/
structure PaperFields where
  trim : Trim
  whitePatch : Option Nat
  nominalWhite : Option Triple
  whiteLimit : Nat
  trimFollow : Bool
  whiteCandidate : Option Triple
  measuredWhite : Option Triple
  deriving DecidableEq, Repr

/-- R11: a new paper record's own fields. -/
def PaperFields.new : PaperFields := ⟨Trim.zero, none, none, 400, false, none, none⟩

/-- The kind of a record, with the fields of that kind alone. -/
inductive KindData
  | paper (fields : PaperFields)
  | display
  deriving DecidableEq, Repr

/-- R124: the first failure since the hold was last emptied. -/
structure Hold where
  deviation : Nat
  patch : Nat
  deriving DecidableEq, Repr

/-- A LIVE record (R4). The media code, the variant and the kind of `data` are its key. -/
structure Record where
  data : KindData
  media : Nat
  variant : Nat
  owner : ClientId
  change : Byte
  lookup : Byte
  bank : Option BankId
  patches : List Triple
  settings : Settings
  state : MatchState
  passStreak : Nat
  failStreak : Nat
  windowStrips : Nat
  windowFailing : Nat
  hold : Option Hold
  passed : Nat
  failed : Nat
  voided : Nat
  deriving DecidableEq, Repr

/-- What a slot holds beside its two indication sets, by phase (R4). -/
inductive SlotContent
  | free
  | live (record : Record)
  | retiring (key : Key) (bank : BankId)
  deriving DecidableEq, Repr

/-- One record slot; it is an indication source in every phase (R5). -/
structure RecordSlot where
  content : SlotContent
  pending : Byte
  enabled : Byte
  deriving DecidableEq, Repr

/-! ## Grid Pool (R27, R33) -/

/-- The nodes of a bank: the listed ones, indices strictly rising, none the zero triple; an unlisted node is the
zero triple (R29). `Nodes.wf` in Machine/Nodes.lean. -/
abbrev Nodes := List (Nat × Triple)

/-- A set of node indices (R33). -/
abbrev Coverage := BitVec 729

/-- A staging context. CHECKING has full coverage (R33); it keeps the committing client and its strict flag as read
when COMMIT_GRID was taken (R176, R180), and the time left to the bound of R41. -/
inductive Context
  | idle
  | loading (record : Handle) (bank : BankId) (coverage : Coverage) (timer : Nat)
  | checking (record : Handle) (bank : BankId) (timer : Nat) (client : ClientId) (strict : Bool)
  deriving DecidableEq, Repr

/-! ## Video lanes (R68) -/

/-- R70: the signal timer runs exactly in ACTIVE. -/
inductive Signal
  | noSignal
  | active (timer : Nat)
  deriving DecidableEq, Repr

/-- R73. -/
structure Binding where
  display : Handle
  paper : Option Handle
  deriving DecidableEq, Repr

/-- R68: absent, NONE, or a binding. -/
inductive PendingBinding
  | absent
  | unbind
  | bind (binding : Binding)
  deriving DecidableEq, Repr

inductive Policy
  | keep | fallback
  deriving DecidableEq, Repr

inductive Mode
  | pass | proof | fallback | measuring
  deriving DecidableEq, Repr

/-- R81: the records a reference change names. -/
structure RefChange where
  display : Option Handle
  paper : Option Handle
  deriving DecidableEq, Repr

/-- A lane (R68). `frameTrim` and `framePatch` are what R52, R82 and R84 fix at a frame start for every pixel of the
frame; `changes` are the reference changes not yet taken, oldest first (R81). -/
structure Lane where
  signal : Signal
  binding : Option Binding
  pendingBinding : PendingBinding
  policy : Policy
  mode : Mode
  displayRef : Option BankId
  paperRef : Option BankId
  measuring : Option Nat
  frameTrim : Option Trim
  framePatch : Option Triple
  changes : List RefChange
  pending : Byte
  enabled : Byte
  deriving DecidableEq, Repr

/-- R69: a pixel word, a device triple of three 10-bit components. -/
structure PixelWord where
  r : BitVec 10
  g : BitVec 10
  b : BitVec 10
  deriving DecidableEq, Repr

/-- R69: what a lane's input carries and its output carries, beside the clock. -/
structure VideoSignals where
  dataEnable : Bool
  frameStart : Bool
  word : PixelWord
  deriving DecidableEq, Repr

/-! ## Instrument Receiver and channels (R89, R93) -/

/-- R89. -/
inductive Receiver
  | hunting
  | receiving (bytes : List Byte) (gap : Nat)
  deriving DecidableEq, Repr

/-- R93: one entry of the readings list. -/
structure Reading where
  index : Nat
  lab : Triple
  good : Bool
  deriving DecidableEq, Repr

/-- R93: an OPEN strip with its inactivity timer. -/
structure Strip where
  count : Nat
  readings : List Reading
  timer : Nat
  deriving DecidableEq, Repr

/-- R105: the causes a channel records. -/
inductive AbandonCause
  | overrun | noRecord | notReady | mismatch | noSignal | sequence | stray | short | stalled | changed
  deriving DecidableEq, Repr

/-- R93; an absent strip is IDLE. -/
structure Channel where
  correction : Correction
  strip : Option Strip
  lastAbandon : Option AbandonCause
  pending : Byte
  enabled : Byte
  deriving DecidableEq, Repr

/-! ## Printer slots (R139) -/

inductive Override
  | auto | forceOn | forceOff
  deriving DecidableEq, Repr

/-- R141: the line timer runs in ARMING and RELEASING; ms left. -/
inductive LineState
  | off
  | arming (timer : Nat)
  | on
  | releasing (timer : Nat)
  deriving DecidableEq, Repr

structure PrinterSlot where
  paper : Option Handle
  override : Override
  t1 : Nat
  t2 : Nat
  line : LineState
  pending : Byte
  enabled : Byte
  deriving DecidableEq, Repr

/-! ## Indication Unit: the global source (R153) -/

/-- R171: the causes of a discarded host frame. -/
inductive LinkFault
  | short | long | check | type | busy
  deriving DecidableEq, Repr

/-- R91: the causes of a discarded instrument message. -/
inductive InstrumentFault
  | check | kind | channel | gap
  deriving DecidableEq, Repr

structure Global where
  pending : Byte
  enabled : Byte
  resetReasons : Byte
  expired : BitVec 48
  linkError : Option LinkFault
  instrumentError : Option InstrumentFault
  faultSet : Byte
  deriving DecidableEq, Repr

/-! ## Host Link Port (R174, R176) -/

/-- R178: every cause of a refusal. -/
inductive Cause
  | unknownKind | badLength | badValue
  | noSuchRecord | wrongKind | noSuchUnit
  | notPermitted | notAdmin
  | busy | inUse | noGrid | poolEmpty | noStaging | notStaging | keyTaken | tableFull | incomplete | gridCheck
  deriving DecidableEq, Repr

inductive OutcomeCode
  | done | doneAdjusted | refused
  deriving DecidableEq, Repr

/-- R174: the parts of a response; the causes stand in the order of the table of R178. -/
structure Response where
  kind : Byte
  outcome : OutcomeCode
  group : Nat
  causes : List Cause
  result : List Byte
  deriving DecidableEq, Repr

/-- R174. -/
inductive ResponseSlot
  | empty
  | pending
  | ready (response : Response)
  deriving DecidableEq, Repr

/-- R176. -/
structure ClientFlags where
  strict : Bool
  admin : Bool
  deriving DecidableEq, Repr

/-! ## Supervisor (R162 to R168) -/

/-- R162: the five reset sources. -/
inductive ResetSource
  | powerOn | supplyLow | coreClockFail | pin | restart
  deriving DecidableEq, Repr

/-- R164. -/
inductive Phase
  | condition
  | hold (timer : Nat)
  deriving DecidableEq, Repr

/-- R164: a running procedure; `second` is the other source where R168 gives a procedure two. -/
structure Procedure where
  source : ResetSource
  second : Option ResetSource
  phase : Phase
  deriving DecidableEq, Repr

/-- R162: which conditions are present. -/
structure Conditions where
  powerOn : Bool
  supplyLow : Bool
  coreClockFail : Bool
  pin : Bool
  deriving DecidableEq, Repr

/-! ## The engine -/

structure State where
  records : Vector RecordSlot 48
  banks : Vector Nodes 24
  contexts : Vector Context 4
  lanes : Vector Lane 2
  channels : Vector Channel 6
  receiver : Receiver
  slots : Vector PrinterSlot 4
  global : Global
  response : ResponseSlot
  clients : Vector ClientFlags 8
  /-- The bytes the port drove on SDO in the last host frame; empty where it drove none (R170, R173, R187; log 16). -/
  sdo : List Byte
  procedure : Option Procedure
  conditions : Conditions
  /-- The commands waiting, first in first out. -/
  pending : List Instr
  deriving DecidableEq, Repr

/-- R24: a FREE slot with both indication sets empty. -/
def RecordSlot.blank : RecordSlot := ⟨.free, 0, 0⟩

/-- R68: the reset column. -/
def Lane.blank : Lane :=
  { signal := .noSignal, binding := none, pendingBinding := .absent, policy := .keep, mode := .pass,
    displayRef := none, paperRef := none, measuring := none, frameTrim := none, framePatch := none, changes := [],
    pending := 0, enabled := 0 }

/-- R93: the last column. -/
def Channel.blank : Channel := ⟨Correction.zero, none, none, 0, 0⟩

/-- R139: the reset column. -/
def PrinterSlot.blank : PrinterSlot := ⟨none, .auto, Config.t1Reset, Config.t2Reset, .off, 0, 0⟩

/-- R161: the global source while a procedure runs, apart from the reset reasons. -/
def Global.blank : Global := ⟨0, 0, 0, 0, none, none, 0⟩

/-- R185: every client lenient, client 0 admin, clients 1..7 not. -/
def clientsReset : Vector ClientFlags 8 := (Vector.replicate 8 ⟨false, false⟩).set 0 ⟨false, true⟩

/-- R162: no condition present. -/
def Conditions.clear : Conditions := ⟨false, false, false, false⟩

/-- R167: every block at its reset values, no indication pending, no procedure running. -/
def State.blank : State :=
  { records := Vector.replicate 48 RecordSlot.blank
    banks := Vector.replicate 24 []
    contexts := Vector.replicate 4 .idle
    lanes := Vector.replicate 2 Lane.blank
    channels := Vector.replicate 6 Channel.blank
    receiver := .hunting
    slots := Vector.replicate 4 PrinterSlot.blank
    global := Global.blank
    response := .empty
    clients := clientsReset
    sdo := []
    procedure := none
    conditions := Conditions.clear
    pending := [] }

/-- The machine right after reset: the end of a power-on procedure with no condition present (R161, R166, R168;
log 12). RESET_OCCURRED (bit 0 of the global class) is pending and the reset reasons are POWER (bit 0). -/
def State.reset : State :=
  { State.blank with global := { Global.blank with pending := 0x01, resetReasons := 0x01 } }

end Sys2Proof.Machine
end

