-- ==== Sys2Proof/Machine/Flags.lean ====
section
/-! DEFINITION. Every flag and mask: ranges and clamp flag sets (R53), indication bits (R151, R186), cause bits
(R187), reset reason bits (R186) and the priorities of the reset sources (R162). -/
namespace Sys2Proof.Machine

/-! ## Ranges, clamping and clamp flags (R53, 00_scope.md Conventions) -/

def inRange (lo hi v : Int) : Bool := lo ≤ v && v ≤ hi

/-- The nearer limit for a value outside the range; a value inside is left as it is. -/
def clampTo (lo hi v : Int) : Int := if v < lo then lo else if hi < v then hi else v

def labInRange (t : Triple) : Bool :=
  inRange 0 10000 t.x && inRange (-12800) 12799 t.y && inRange (-12800) 12799 t.z

def deviceInRange (t : Triple) : Bool := inRange 0 1023 t.x && inRange 0 1023 t.y && inRange 0 1023 t.z

def clampLab (t : Triple) : Triple :=
  ⟨clampTo 0 10000 t.x, clampTo (-12800) 12799 t.y, clampTo (-12800) 12799 t.z⟩

def clampDevice (t : Triple) : Triple := ⟨clampTo 0 1023 t.x, clampTo 0 1023 t.y, clampTo 0 1023 t.z⟩

/-- R53, R186: the components a clamp changed; bit 0 the first, bit 1 the second, bit 2 the third. -/
def clampFlags (before after : Triple) : Byte :=
  (if before.x = after.x then 0 else 1) ||| (if before.y = after.y then 0 else 2)
    ||| (if before.z = after.z then 0 else 4)

/-! ## Indications (R151), bit n for the nth of its class -/

def indMatchChanged : Byte := 0x01
def indExcessive : Byte := 0x02
def indWrongMedia : Byte := 0x04
def indHoldCaptured : Byte := 0x08
def indWhiteUpdated : Byte := 0x10
def indRetired : Byte := 0x20
def indResetOccurred : Byte := 0x01
def indStagingExpired : Byte := 0x02
def indLinkFrameError : Byte := 0x04
def indInstrumentFrameError : Byte := 0x08
def indClientFault : Byte := 0x10
def indLineChanged : Byte := 0x01
def indSignalChanged : Byte := 0x01
def indFallbackChanged : Byte := 0x02
def indBindingApplied : Byte := 0x04
def indStripEvaluated : Byte := 0x01
def indStripVoid : Byte := 0x02
def indStripAbandoned : Byte := 0x04

/-- R151: the 61 indication sources. -/
inductive Source
  | global
  | slot (n : SlotId)
  | lane (n : LaneId)
  | channel (n : ChannelId)
  | record (n : Handle)
  deriving DecidableEq, Repr

/-- R151: the indications of a source's class. -/
def Source.members : Source → Byte
  | .global => 0x1F
  | .slot _ => 0x01
  | .lane _ => 0x07
  | .channel _ => 0x07
  | .record _ => 0x3F

/-- R155: the order of the notice list. -/
def allSources : List Source :=
  .global :: ((List.finRange 4).map .slot ++ (List.finRange 2).map .lane ++ (List.finRange 6).map .channel
    ++ (List.finRange 48).map .record)

/-! ## Causes (R178, R187) -/

/-- R187: the bit of a cause in the cause set of its group. -/
def Cause.bit : Cause → Nat
  | .unknownKind => 0
  | .badLength => 1
  | .badValue => 2
  | .noSuchRecord => 0
  | .wrongKind => 1
  | .noSuchUnit => 2
  | .notPermitted => 0
  | .notAdmin => 1
  | .busy => 0
  | .inUse => 1
  | .noGrid => 2
  | .poolEmpty => 3
  | .noStaging => 4
  | .notStaging => 5
  | .keyTaken => 6
  | .tableFull => 7
  | .incomplete => 8
  | .gridCheck => 9

/-- R187: the 16-bit cause set. -/
def causeMask (cs : List Cause) : BitVec 16 := cs.foldl (fun m c => m ||| (1 <<< c.bit)) 0

/-- The causes whose condition holds, in the order of the list. -/
def failing (checks : List (Cause × Bool)) : List Cause := (checks.filter (·.2)).map (·.1)

/-! ## Sets of clients and handles (R186) -/

/-- The set with the one client n. -/
def clientBit (n : ClientId) : Byte := 1 <<< n.val

def inSet (set : Byte) (n : ClientId) : Bool := set.getLsbD n.val

def handleBit (h : Handle) : BitVec 48 := 1 <<< h.val

/-! ## Reset sources (R162, R166) -/

/-- R162: 1 is the highest. -/
def ResetSource.priority : ResetSource → Nat
  | .powerOn => 1
  | .supplyLow => 2
  | .coreClockFail => 2
  | .pin => 3
  | .restart => 4

/-- R186: POWER bit 0, SUPPLY bit 1, CLOCK bit 2, PIN bit 3, RESTART bit 4. -/
def ResetSource.flag : ResetSource → Byte
  | .powerOn => 0x01
  | .supplyLow => 0x02
  | .coreClockFail => 0x04
  | .pin => 0x08
  | .restart => 0x10

/-- R166: the flags of a priority equal to or higher than the given one. -/
def keptReasons (priority : Nat) : Byte :=
  if priority ≤ 1 then 0x01 else if priority = 2 then 0x07 else if priority = 3 then 0x0F else 0x1F

/-- R164: the hold time of a priority, in ms. -/
def holdMs (priority : Nat) : Nat := if priority ≤ 2 then Config.longHoldMs else Config.shortHoldMs

/-! ## Match state -/

/-- R112, R140: MATCHED and SUSPECT count as in match. -/
def MatchState.inMatch : MatchState → Bool
  | .matched | .suspect => true
  | .unverified | .lost => false

end Sys2Proof.Machine
end

