-- ==== Sys2Proof/Machine/Nodes.lean ====
section
/-! DEFINITION. The contents of a grid bank: nodes addressed 0..728 (R25), in one canonical form. -/
namespace Sys2Proof.Machine

/-- R25: the index of node (i, j, k). -/
def nodeIndex (i j k : Nat) : Nat := i * 81 + j * 9 + k

/-- The value of one node; an unlisted node is the zero triple (R29). -/
def Nodes.read : Nodes → Nat → Triple
  | [], _ => Triple.zero
  | (m, t) :: rest, n => if m = n then t else Nodes.read rest n

/-- Put a node in front, unless it is the zero triple that an unlisted node reads as. -/
def Nodes.cons (n : Nat) (t : Triple) (rest : Nodes) : Nodes := if t = Triple.zero then rest else (n, t) :: rest

/-- Write one node, keeping the canonical form (R37). -/
def Nodes.write : Nodes → Nat → Triple → Nodes
  | [], n, t => Nodes.cons n t []
  | (m, u) :: rest, n, t =>
    if n < m then Nodes.cons n t ((m, u) :: rest)
    else if n = m then Nodes.cons n t rest
    else (m, u) :: Nodes.write rest n t

/-- R37: write the values at the nodes first, first + 1 and so on, in the order they are carried. -/
def Nodes.writeRun : Nodes → Nat → List Triple → Nodes
  | ns, _, [] => ns
  | ns, first, t :: ts => Nodes.writeRun (Nodes.write ns first t) (first + 1) ts

/-- The form from index `lo` on: strictly rising, below 729, no entry the zero triple. -/
def Nodes.wfFrom (lo : Nat) : Nodes → Bool
  | [] => true
  | (n, t) :: rest => lo ≤ n && n < Config.nodes && t ≠ Triple.zero && Nodes.wfFrom (n + 1) rest

/-- The canonical form. -/
def Nodes.wf (ns : Nodes) : Bool := Nodes.wfFrom 0 ns

end Sys2Proof.Machine
end

