-- ==== Sys2Proof/Machine/Colour.lean ====
section
/-! DEFINITION. Colour Arithmetic (03_colour_arithmetic_and_translation.md): the four operations and the three
transforms. It holds no state. -/
namespace Sys2Proof.Machine

/-- R53: n / d to the nearest integer, ties away from zero; d above 0. -/
def roundDiv (n d : Int) : Int := if 0 ≤ n then (2 * n + d) / (2 * d) else -((-(2 * n) + d) / (2 * d))

/-- R54: a gain applied to an integer value. -/
def applyGain (g v : Int) : Int := roundDiv (v * (8192 + g)) 8192

/-- R56: the cell, the fraction numerator and the cell width of one axis. -/
structure Axis where
  cell : Nat
  frac : Nat
  width : Nat
  deriving DecidableEq, Repr

/-- R56: the whole part of u / w, but 7 when it is 8, and the rest. -/
def axisOf (u w : Nat) : Axis := ⟨min 7 (u / w), u - w * min 7 (u / w), w⟩

/-- R57: the weight of the lower or the upper side of an axis. -/
def Axis.weight (a : Axis) (upper : Bool) : Nat := if upper then a.frac else a.width - a.frac

/-- R57: the node coordinate of the lower or the upper corner. -/
def Axis.node (a : Axis) (upper : Bool) : Nat := if upper then a.cell + 1 else a.cell

/-- R55: the three axes of a lookup. -/
def axesOf (kind : Kind) (t : Triple) : Axis × Axis × Axis :=
  match kind with
  | .paper => (axisOf t.x.toNat 128, axisOf t.y.toNat 128, axisOf t.z.toNat 128)
  | .display => (axisOf t.x.toNat 1250, axisOf (t.y + 12800).toNat 3200, axisOf (t.z + 12800).toNat 3200)

/-- The eight corners of a cell: lower or upper on each axis. -/
def corners : List (Bool × Bool × Bool) :=
  [(false, false, false), (false, false, true), (false, true, false), (false, true, true),
   (true, false, false), (true, false, true), (true, true, false), (true, true, true)]

/-- R57: the product of a corner's three weights. -/
def cornerWeight (ax : Axis × Axis × Axis) (c : Bool × Bool × Bool) : Nat :=
  ax.1.weight c.1 * ax.2.1.weight c.2.1 * ax.2.2.weight c.2.2

/-- R57: the node at a corner. -/
def cornerNode (ns : Nodes) (ax : Axis × Axis × Axis) (c : Bool × Bool × Bool) : Triple :=
  ns.read (nodeIndex (ax.1.node c.1) (ax.2.1.node c.2.1) (ax.2.2.node c.2.2))

/-- R57: one component of the weighted mean, rounded. -/
def blend (ns : Nodes) (ax : Axis × Axis × Axis) (component : Triple → Int) : Int :=
  roundDiv ((corners.map fun c => (cornerWeight ax c : Int) * component (cornerNode ns ax c)).sum)
    (ax.1.width * ax.2.1.width * ax.2.2.width : Nat)

/-- R57: the grid lookup. -/
def lookupGrid (kind : Kind) (ns : Nodes) (t : Triple) : Triple :=
  ⟨blend ns (axesOf kind t) (·.x), blend ns (axesOf kind t) (·.y), blend ns (axesOf kind t) (·.z)⟩

/-- R59: the trim before its clamp. -/
def trimmed (trim : Trim) (t : Triple) : Triple :=
  ⟨applyGain trim.gainL t.x + trim.offL, t.y + trim.offA, t.z + trim.offB⟩

/-- R59: the paper transform and its trim flags. -/
def paperTransform (ns : Nodes) (trim : Trim) (t : Triple) : Triple × Byte :=
  let u := trimmed trim (lookupGrid .paper ns t)
  (clampLab u, clampFlags u (clampLab u))

/-- R60: the render transform. -/
def renderTransform (ns : Nodes) (t : Triple) : Triple := clampDevice (lookupGrid .display ns t)

/-- R60: the proof transform: the intermediate Lab triple, the trim flags, the device triple. -/
def proofTransform (paper : Nodes) (trim : Trim) (display : Nodes) (t : Triple) : Triple × Byte × Triple :=
  let (lab, flags) := paperTransform paper trim t
  (lab, flags, renderTransform display lab)

/-- R63: the head correction of a reading. -/
def headCorrect (c : Correction) (t : Triple) : Triple :=
  clampLab ⟨applyGain c.gainL t.x + c.offL, applyGain c.gainA t.y + c.offA, applyGain c.gainB t.z + c.offB⟩

/-- R64: the deviation between two Lab triples. -/
def deviation (s t : Triple) : Nat := (s.x - t.x).natAbs + (s.y - t.y).natAbs + (s.z - t.z).natAbs

end Sys2Proof.Machine
end

