-- ==== Sys2Proof/Machine/Operands.lean ====
section
/-! DEFINITION. The field encodings of R186, both ways, and the check byte. -/
namespace Sys2Proof.Machine

/-! ## Reading fields -/

/-- Two bytes, unsigned, high byte first. -/
def u16 (hi lo : Byte) : Nat := hi.toNat * 256 + lo.toNat

/-- Two bytes, two's complement, high byte first. -/
def s16 (hi lo : Byte) : Int := (hi ++ lo : BitVec 16).toInt

/-- On/off: off 0x00, on 0x01. -/
def onOff (b : Byte) : Option Bool := if b = 0 then some false else if b = 1 then some true else none

/-- Kind code: PAPER 0x01, DISPLAY 0x02. -/
def kindOf (b : Byte) : Option Kind := if b = 1 then some .paper else if b = 2 then some .display else none

/-- Stale policy: KEEP 0x00, FALLBACK 0x01. -/
def policyOf (b : Byte) : Option Policy := if b = 0 then some .keep else if b = 1 then some .fallback else none

/-- Override: AUTO 0x00, FORCE_ON 0x01, FORCE_OFF 0x02. -/
def overrideOf (b : Byte) : Option Override :=
  if b = 0 then some .auto else if b = 1 then some .forceOn else if b = 2 then some .forceOff else none

/-- The six bytes of a Lab triple: L unsigned, a and b signed. -/
def labOf (a b c d e f : Byte) : Triple := ⟨u16 a b, s16 c d, s16 e f⟩

/-- The six bytes of a device triple. -/
def deviceOf (a b c d e f : Byte) : Triple := ⟨u16 a b, u16 c d, u16 e f⟩

/-- As many triples as the bytes hold, six bytes each. -/
def triplesOf (form : Byte → Byte → Byte → Byte → Byte → Byte → Triple) : List Byte → List Triple
  | a :: b :: c :: d :: e :: f :: rest => form a b c d e f :: triplesOf form rest
  | _ => []

/-- A number of an n-fold object, if it names one. -/
def numberOf (n : Nat) (b : Byte) : Option (Fin n) := if h : b.toNat < n then some ⟨b.toNat, h⟩ else none

/-! ## Writing fields -/

def byteOf (n : Nat) : Byte := BitVec.ofNat 8 n

/-- A two-byte field; the same bytes serve unsigned and signed values. -/
def enc16 (v : Int) : List Byte := [((BitVec.ofInt 16 v) >>> 8).setWidth 8, (BitVec.ofInt 16 v).setWidth 8]

def encTriple (t : Triple) : List Byte := enc16 t.x ++ enc16 t.y ++ enc16 t.z

def encBool (b : Bool) : Byte := if b then 1 else 0

/-- An absent number is sent as 0xFF. -/
def encNumber {n : Nat} : Option (Fin n) → Byte
  | none => 0xFF
  | some k => byteOf k.val

def encIndex : Option Nat → Byte
  | none => 0xFF
  | some k => byteOf k

/-- Presence, then the triple, zero when absent. -/
def encOptTriple : Option Triple → List Byte
  | none => 0 :: encTriple Triple.zero
  | some t => 1 :: encTriple t

/-- Presence, deviation, patch index, zero when absent. -/
def encHold : Option Hold → List Byte
  | none => [0, 0, 0, 0]
  | some h => 1 :: enc16 h.deviation ++ [byteOf h.patch]

def encTrim (t : Trim) : List Byte := enc16 t.gainL ++ enc16 t.offL ++ enc16 t.offA ++ enc16 t.offB

def encCorrection (c : Correction) : List Byte :=
  enc16 c.gainL ++ enc16 c.offL ++ enc16 c.gainA ++ enc16 c.offA ++ enc16 c.gainB ++ enc16 c.offB

def encKind : Kind → Byte
  | .paper => 1
  | .display => 2

def encMatchState : MatchState → Byte
  | .unverified => 0
  | .matched => 1
  | .suspect => 2
  | .lost => 3

def encPolicy : Policy → Byte
  | .keep => 0
  | .fallback => 1

def encMode : Mode → Byte
  | .pass => 0
  | .proof => 1
  | .fallback => 2
  | .measuring => 3

def encOverride : Override → Byte
  | .auto => 0
  | .forceOn => 1
  | .forceOff => 2

def encLine : LineState → Byte
  | .off => 0
  | .arming _ => 1
  | .on => 2
  | .releasing _ => 3

def encAbandon : Option AbandonCause → Byte
  | none => 0xFF
  | some .overrun => 0x01
  | some .noRecord => 0x02
  | some .notReady => 0x03
  | some .mismatch => 0x04
  | some .noSignal => 0x05
  | some .sequence => 0x06
  | some .stray => 0x07
  | some .short => 0x08
  | some .stalled => 0x09
  | some .changed => 0x0A

def encLinkFault : Option LinkFault → Byte
  | none => 0xFF
  | some .short => 0x01
  | some .long => 0x02
  | some .check => 0x03
  | some .type => 0x04
  | some .busy => 0x05

def encInstrumentFault : Option InstrumentFault → Byte
  | none => 0xFF
  | some .check => 0x01
  | some .kind => 0x02
  | some .channel => 0x03
  | some .gap => 0x04

def encOutcome : OutcomeCode → Byte
  | .done => 0
  | .doneAdjusted => 1
  | .refused => 2

/-! ## The check byte (00_scope.md, Links and encodings) -/

/-- The sum of the bytes modulo 256. -/
def byteSum (bs : List Byte) : Byte := bs.foldl (· + ·) 0

/-- The bytes with the check byte that makes the sum 0 modulo 256. -/
def withCheck (bs : List Byte) : List Byte := bs ++ [-(byteSum bs)]

/-- The fill byte of SDO (R187). -/
def fillByte : Byte := 0xFF

def fill (n : Nat) : List Byte := List.replicate n fillByte

end Sys2Proof.Machine
end

