-- ==== Sys2Proof/Machine/Ops.lean ====
section
/-! DEFINITION. The named operations the meanings share: reading and writing each block's state, latching an
indication, abandoning a strip, the line machine, the bank holders and the drain of a retired record. -/
namespace Sys2Proof.Machine

/-- R167: from the start of a procedure to the end of its hold no event of any block is taken. -/
def State.event (s t : State) : State := if s.procedure.isSome then s else t

/-! ## Writing one object -/

def State.setRecord (s : State) (h : Handle) (r : RecordSlot) : State := { s with records := s.records.set h r }
def State.setBank (s : State) (b : BankId) (ns : Nodes) : State := { s with banks := s.banks.set b ns }
def State.setContext (s : State) (c : ContextId) (x : Context) : State := { s with contexts := s.contexts.set c x }
def State.setLane (s : State) (l : LaneId) (x : Lane) : State := { s with lanes := s.lanes.set l x }
def State.setChannel (s : State) (c : ChannelId) (x : Channel) : State := { s with channels := s.channels.set c x }
def State.setSlot (s : State) (n : SlotId) (x : PrinterSlot) : State := { s with slots := s.slots.set n x }

/-! ## Records -/

def KindData.kind : KindData → Kind
  | .paper _ => .paper
  | .display => .display

def Record.kind (r : Record) : Kind := r.data.kind

/-- R3: the key of a record. -/
def Record.key (r : Record) : Key := ⟨r.kind, r.media, r.variant⟩

/-- The fields only a PAPER record holds. -/
def Record.paper? (r : Record) : Option PaperFields :=
  match r.data with
  | .paper f => some f
  | .display => none

/-- The trim of a paper record; a display record has none, and no operation reads one (R58). -/
def Record.trim (r : Record) : Trim := (r.paper?.map (·.trim)).getD Trim.zero

/-- Change the fields only a PAPER record holds. -/
def Record.onPaper (r : Record) (f : PaperFields → PaperFields) : Record :=
  match r.data with
  | .paper p => { r with data := .paper (f p) }
  | .display => r

/-- The LIVE record of a handle (R1). -/
def State.record? (s : State) (h : Handle) : Option Record :=
  match s.records[h].content with
  | .live r => some r
  | .free => none
  | .retiring _ _ => none

/-- Replace the record of a slot, keeping its indication sets. -/
def State.putRecord (s : State) (h : Handle) (r : Record) : State :=
  s.setRecord h { s.records[h] with content := .live r }

/-- R3: the key a slot holds outside FREE. -/
def RecordSlot.key? (r : RecordSlot) : Option Key :=
  match r.content with
  | .free => none
  | .live x => some x.key
  | .retiring k _ => some k

/-- R22: a slot that enters FREE by retirement keeps its two sets and has RETIRED latched. -/
def RecordSlot.retired (r : RecordSlot) : RecordSlot :=
  { r with content := .free, pending := r.pending ||| indRetired }

/-- The current bank of the LIVE record of a handle. -/
def State.bankOf (s : State) (h : Handle) : Option BankId := (s.record? h).bind (·.bank)

/-! ## Staging contexts and bank holders (R27, R33) -/

def Context.record? : Context → Option Handle
  | .idle => none
  | .loading h _ _ _ => some h
  | .checking h _ _ _ _ => some h

def Context.bank? : Context → Option BankId
  | .idle => none
  | .loading _ b _ _ => some b
  | .checking _ b _ _ _ => some b

/-- R33: the record's staging context field, with the context it names. -/
def State.stagingOf (s : State) (h : Handle) : Option (ContextId × Context) :=
  ((List.finRange 4).find? fun c => s.contexts[c].record? = some h).map fun c => (c, s.contexts[c])

/-- R27: some lane's frame reference holds the bank. -/
def State.laneHolds (s : State) (b : BankId) : Bool :=
  s.lanes.any fun l => l.displayRef = some b || l.paperRef = some b

/-- R27: the record that holds the bank as its current bank. -/
def State.recordHolder (s : State) (b : BankId) : Option Handle :=
  (List.finRange 48).find? fun h => s.bankOf h = some b

/-- R27: the staging context that holds the bank. -/
def State.contextHolder (s : State) (b : BankId) : Option ContextId :=
  (List.finRange 4).find? fun c => s.contexts[c].bank? = some b

/-- R188: bit 0 lane 0 display, bit 1 lane 0 paper, bit 2 lane 1 display, bit 3 lane 1 paper. -/
def State.laneMask (s : State) (b : BankId) : Byte :=
  (if s.lanes[0].displayRef = some b then 1 else 0) ||| (if s.lanes[0].paperRef = some b then 2 else 0)
    ||| (if s.lanes[1].displayRef = some b then 4 else 0) ||| (if s.lanes[1].paperRef = some b then 8 else 0)

/-- R27: a bank is free when its holder set is empty. -/
def State.bankFree (s : State) (b : BankId) : Bool :=
  (s.recordHolder b).isNone && (s.contextHolder b).isNone && !s.laneHolds b

/-- R27: the lowest-numbered free bank. -/
def State.lowestFreeBank (s : State) : Option BankId := (List.finRange 24).find? s.bankFree

/-- R33: the lowest-numbered IDLE context. -/
def State.lowestIdleContext (s : State) : Option ContextId :=
  (List.finRange 4).find? fun c => s.contexts[c] = .idle

/-- R21, R22, R30: every RETIRING record whose draining bank no lane holds any more enters FREE. -/
def State.endDrains (s : State) : State :=
  { s with records := Vector.ofFn fun h : Handle =>
      match s.records[h].content with
      | .retiring _ b => if s.laneHolds b then s.records[h] else s.records[h].retired
      | .free => s.records[h]
      | .live _ => s.records[h] }

/-! ## Who names a record (R16, R73) -/

def Binding.names (b : Binding) (h : Handle) : Bool := b.display = h || b.paper = some h

def PendingBinding.names (p : PendingBinding) (h : Handle) : Bool :=
  match p with
  | .bind b => b.names h
  | .absent => false
  | .unbind => false

/-- R16: named in the binding, the pending binding or a reference change not yet taken. -/
def Lane.names (l : Lane) (h : Handle) : Bool :=
  (match l.binding with | some b => b.names h | none => false) || l.pendingBinding.names h
    || l.changes.any fun c => c.display = some h || c.paper = some h

/-- R73: the display record is named, as display, in the binding or the pending binding. -/
def Lane.namesDisplay (l : Lane) (h : Handle) : Bool :=
  (match l.binding with | some b => b.display = h | none => false)
    || (match l.pendingBinding with | .bind b => b.display = h | .absent => false | .unbind => false)

/-- R16: an active paper, or named by a lane. -/
def State.inUse (s : State) (h : Handle) : Bool :=
  (s.slots.any fun n => n.paper = some h) || (s.lanes.any fun l => l.names h)

/-! ## Indications (R152, R154) -/

def State.pendingOf (s : State) : Source → Byte
  | .global => s.global.pending
  | .slot n => s.slots[n].pending
  | .lane n => s.lanes[n].pending
  | .channel n => s.channels[n].pending
  | .record h => s.records[h].pending

def State.enabledOf (s : State) : Source → Byte
  | .global => s.global.enabled
  | .slot n => s.slots[n].enabled
  | .lane n => s.lanes[n].enabled
  | .channel n => s.channels[n].enabled
  | .record h => s.records[h].enabled

def State.setPending (s : State) (src : Source) (v : Byte) : State :=
  match src with
  | .global => { s with global := { s.global with pending := v } }
  | .slot n => s.setSlot n { s.slots[n] with pending := v }
  | .lane n => s.setLane n { s.lanes[n] with pending := v }
  | .channel n => s.setChannel n { s.channels[n] with pending := v }
  | .record h => s.setRecord h { s.records[h] with pending := v }

def State.setEnabled (s : State) (src : Source) (v : Byte) : State :=
  match src with
  | .global => { s with global := { s.global with enabled := v } }
  | .slot n => s.setSlot n { s.slots[n] with enabled := v }
  | .lane n => s.setLane n { s.lanes[n] with enabled := v }
  | .channel n => s.setChannel n { s.channels[n] with enabled := v }
  | .record h => s.setRecord h { s.records[h] with enabled := v }

/-- R152: a latch adds to the pending set and reads nothing else. -/
def State.latch (s : State) (src : Source) (mask : Byte) : State := s.setPending src (s.pendingOf src ||| mask)

/-- Whether some indication of the source is both pending and enabled. -/
def State.anyEnabled (s : State) (src : Source) : Bool := s.pendingOf src &&& s.enabledOf src ≠ 0

/-- R154: the level of ATTN. -/
def State.attn (s : State) : Bool := allSources.any s.anyEnabled

/-! ## Channels and strips (R94, R105) -/

/-- R94: the probe channel of a lane. -/
def probeOf (l : LaneId) : ChannelId := ⟨4 + l.val, by omega⟩

/-- R94: the lane of a probe channel. -/
def laneOfChannel (c : ChannelId) : Option LaneId := if h : 4 ≤ c.val then some ⟨c.val - 4, by omega⟩ else none

/-- R94: the head channel of a slot. -/
def headOf (n : SlotId) : ChannelId := ⟨n.val, by omega⟩

/-- R94: the record a channel is attached to. -/
def State.attached (s : State) (c : ChannelId) : Option Handle :=
  if h : c.val < 4 then (s.slots[c.val]).paper else ((s.lanes[c.val - 4]'(by omega)).binding).map (·.display)

/-- R105: an abandonment; a refused opening and a stray message record their cause in the same way. -/
def Channel.abandon (ch : Channel) (cause : AbandonCause) : Channel :=
  { ch with strip := none, lastAbandon := some cause, pending := ch.pending ||| indStripAbandoned }

/-- Abandon the strip of a channel if one is open. -/
def Channel.abandonOpen (ch : Channel) (cause : AbandonCause) : Channel :=
  if ch.strip.isSome then ch.abandon cause else ch

/-- R106: abandon the open strip of a channel, if any. -/
def State.abandonStrip (s : State) (c : ChannelId) (cause : AbandonCause) : State :=
  s.setChannel c (s.channels[c].abandonOpen cause)

/-- R106: abandon with CHANGED the open strip of every channel attached to the record. -/
def State.abandonAttached (s : State) (h : Handle) : State :=
  { s with channels := Vector.ofFn fun c : ChannelId =>
      if s.attached c = some h then s.channels[c].abandonOpen .changed else s.channels[c] }

/-! ## The line machine (R140 to R143) -/

/-- R140: the line condition of a slot. -/
def State.lineCondition (s : State) (n : SlotId) : Bool :=
  match s.slots[n].paper with
  | none => false
  | some h => match s.record? h with
    | some r => r.state.inMatch
    | none => false

/-- R139: the line output, the level of PVALn. -/
def PrinterSlot.output (p : PrinterSlot) : Bool :=
  match p.override with
  | .forceOn => true
  | .forceOff => false
  | .auto => match p.line with
    | .on => true
    | .releasing _ => true
    | .off => false
    | .arming _ => false

/-- The level of PVALn. -/
def State.pval (s : State) (n : SlotId) : Bool := s.slots[n].output

/-- R141: the condition becomes true. -/
def LineState.rise (t1 : Nat) : LineState → LineState
  | .off => if t1 = 0 then .on else .arming (t1 * Config.delayUnitMs)
  | .arming t => .arming t
  | .on => .on
  | .releasing _ => .on

/-- R141: the condition becomes false. -/
def LineState.fall (t2 : Nat) : LineState → LineState
  | .off => .off
  | .arming _ => .off
  | .on => if t2 = 0 then .off else .releasing (t2 * Config.delayUnitMs)
  | .releasing t => .releasing t

/-- R143: LINE_CHANGED is latched when the output of `old` and `new` differ. -/
def PrinterSlot.noteOutput (old new : PrinterSlot) : PrinterSlot :=
  if old.output = new.output then new else { new with pending := new.pending ||| indLineChanged }

/-- R141, R147: the machine's event when the condition goes from `was` to `now`; under an override it is frozen. -/
def PrinterSlot.edge (p : PrinterSlot) (was now : Bool) : PrinterSlot :=
  match p.override with
  | .forceOn => p
  | .forceOff => p
  | .auto =>
    if was = now then p
    else p.noteOutput { p with line := if now then p.line.rise p.t1 else p.line.fall p.t2 }

/-- R140: each slot re-evaluates its condition, from its value in `old` to its value in `new`. -/
def State.settleLines (old new : State) : State :=
  { new with slots := Vector.ofFn fun n : SlotId =>
      new.slots[n].edge (old.lineCondition n) (new.lineCondition n) }

/-! ## Match state (R127) -/

/-- The match state becomes UNVERIFIED by a commit, SET_PATCHES or REVERIFY: streaks and window cleared (R45, R116,
R134). -/
def Record.unverify (r : Record) : Record :=
  { r with state := .unverified, passStreak := 0, failStreak := 0, windowStrips := 0, windowFailing := 0 }

/-- R45, R116, R134: MATCH_CHANGED when the state was anything but UNVERIFIED. -/
def Record.unverifyMask (r : Record) : Byte := if r.state = .unverified then 0 else indMatchChanged

end Sys2Proof.Machine
end

