-- ==== Sys2Proof/Machine/Link.lean ====
section
/-! DEFINITION. The Host Link Port's shared operations: how a request is taken, checked, completed and answered
(R171, R174, R178 to R181), access to records (R7, R9), the discard of a frame (R172) and the status report of a
fetch (R173, R187). -/
namespace Sys2Proof.Machine

/-! ## The client of a request (R176) -/

/-- The client named in a taken request frame, with its flags as read when the request is taken. -/
structure Caller where
  id : ClientId
  strict : Bool
  admin : Bool
  deriving DecidableEq, Repr

def State.caller (s : State) (c : ClientId) : Caller := ⟨c, s.clients[c].strict, s.clients[c].admin⟩

/-! ## What a block answers to a request -/

/-- The outcome of a request's checks and effect. -/
inductive Verdict
  /-- The first failing group and every cause of it that holds (R178). -/
  | refused (group : Nat) (causes : List Cause)
  /-- Carried out as sent; the result and the state after. -/
  | done (result : List Byte) (s : State)
  /-- Carried out with clamped values (R179). -/
  | adjusted (result : List Byte) (s : State)
  /-- A COMMIT_GRID whose check runs (R41). -/
  | committed (s : State)
  /-- A RESTART: no response is prepared (R184). -/
  | restarted (s : State)
  deriving DecidableEq, Repr

/-- R178: refuse with every cause of the group that holds, or go on. -/
def refuseIf (group : Nat) (checks : List (Cause × Bool)) (go : Verdict) : Verdict :=
  match failing checks with
  | [] => go
  | c :: cs => .refused group (c :: cs)

/-- R179: DONE, or DONE_ADJUSTED when a value was clamped. -/
def accept (clamped : Bool) (result : List Byte) (s : State) : Verdict :=
  if clamped then .adjusted result s else .done result s

/-! ## Access to records (R7, R9) -/

def Caller.canLookup (q : Caller) (r : Record) : Bool := q.admin || inSet r.change q.id || inSet r.lookup q.id
def Caller.canChange (q : Caller) (r : Record) : Bool := q.admin || inSet r.change q.id
def Caller.isOwner (q : Caller) (r : Record) : Bool := q.admin || q.id = r.owner

/-- R9: the LIVE record a handle byte names, if it names one. -/
def State.target (s : State) (b : Byte) : Option (Handle × Record) :=
  (numberOf 48 b).bind fun h => (s.record? h).map fun r => (h, r)

/-- R9: NO_SUCH_RECORD. -/
def missing (t : Option (Handle × Record)) : Bool := t.isNone

/-- R9: WRONG_KIND; a handle that names no LIVE record adds none. -/
def notKind (k : Kind) (t : Option (Handle × Record)) : Bool :=
  match t with
  | some (_, r) => r.kind ≠ k
  | none => false

/-- A request on one record of either kind: group 2, then group 3 by `allowed`, then the rest. -/
def onRecord (s : State) (b : Byte) (allowed : Record → Bool) (go : Handle → Record → Verdict) : Verdict :=
  match s.target b with
  | none => .refused 2 [.noSuchRecord]
  | some (h, r) => refuseIf 3 [(.notPermitted, !allowed r)] (go h r)

/-! ## Completing a request (R174, R180) -/

/-- R180: a refusal of a strict client. -/
def State.noteFault (s : State) (client : ClientId) (strict : Bool) : State :=
  if strict then
    { s with global := { s.global with
        pending := s.global.pending ||| indClientFault, faultSet := s.global.faultSet ||| clientBit client } }
  else s

/-- R174: put a response in the slot. -/
def State.respond (s : State) (kind : Byte) (outcome : OutcomeCode) (group : Nat) (causes : List Cause)
    (result : List Byte) : State :=
  { s with response := .ready ⟨kind, outcome, group, causes, result⟩ }

/-- Complete a taken request of client `q`, whose block gave this verdict on the state `s`. -/
def complete (kind : Byte) (q : Caller) (s : State) : Verdict → State
  | .refused group causes => (s.respond kind .refused group causes []).noteFault q.id q.strict
  | .done result t => t.respond kind .done 0 [] result
  | .adjusted result t => t.respond kind .doneAdjusted 0 [] result
  | .committed t => { t with response := .pending }
  | .restarted t => t

/-! ## Frames (R170 to R172) -/

/-- R172: a discarded frame latches LINK_FRAME_ERROR with its cause and reaches no other block. -/
def State.discardFrame (s : State) (cause : LinkFault) : State :=
  { s with global := { s.global with
      pending := s.global.pending ||| indLinkFrameError, linkError := some cause } }

/-- What SDO carries while the host sends n bytes: fill bytes (R170). -/
def State.driveFill (s : State) (n : Nat) : State := { s with sdo := fill n }

/-- R170: a frame the port ignores; SDO is undriven. -/
def State.ignoreFrame (s : State) : State := { s with sdo := [] }

/-- Whether a commit's response is PENDING (R171). -/
def State.busy (s : State) : Bool :=
  match s.response with
  | .pending => true
  | .empty => false
  | .ready _ => false

/-- What a request of a kind does, by its owning block. -/
abbrev Block := Caller → List Byte → State → Verdict

/-- R178 step 1: a client number above 7 is refused with BAD_VALUE, and adds nothing to the fault set. -/
def judgeClient (kind client : Byte) (body : List Byte) (run : Block) (s : State) : State :=
  match numberOf 8 client with
  | none => s.respond kind .refused 1 [.badValue] []
  | some c => complete kind (s.caller c) s (run (s.caller c) body s)

/-- A request frame whose bytes are sound, at the release of SEL_N: ignored while a procedure runs (R170), discarded
as LONG or BUSY (R171), or taken. -/
def takeRequest (kind : Byte) (run : Block) (client : Byte) (body : List Byte) (s : State) : State :=
  if s.procedure.isSome then s.ignoreFrame
  else if Config.bodyMax < body.length then (s.driveFill (5 + body.length)).discardFrame .long
  else if s.busy then (s.driveFill (5 + body.length)).discardFrame .busy
  else judgeClient kind client body run (s.driveFill (5 + body.length))

/-- R178 step 1: a taken request of a kind the port does not know; the body is not examined. -/
def takeUnknown (kind client : Byte) (body : List Byte) (s : State) : State :=
  if s.procedure.isSome then s.ignoreFrame
  else if s.busy then (s.driveFill (5 + body.length)).discardFrame .busy
  else
    match numberOf 8 client with
    | none => (s.driveFill (5 + body.length)).respond kind .refused 1 [.unknownKind, .badValue] []
    | some c =>
      complete kind (s.caller c) (s.driveFill (5 + body.length)) (.refused 1 [.unknownKind])

/-! ## Fetch (R173, R187) -/

/-- R187: the bytes from the kind echo to the last result byte. -/
def responseBytes (r : Response) : List Byte :=
  [r.kind, encOutcome r.outcome, byteOf r.group] ++ enc16 (causeMask r.causes).toNat ++ r.result

/-- R187: the status report of the response slot. -/
def statusReport : ResponseSlot → List Byte
  | .empty => withCheck [0x00]
  | .pending => withCheck [0x01]
  | .ready r => withCheck (0x02 :: (enc16 (responseBytes r).length ++ responseBytes r))

/-- What SDO carries in the n bytes after a sound fetch's check byte: the report, then fill bytes. -/
def clockOut (report : List Byte) (n : Nat) : List Byte := report.take n ++ fill (n - report.length)

/-- R173: a fetch frame; `after` are the bytes the host clocks after the type byte 0x6C. -/
def fetchFrame (after : List Byte) (s : State) : State :=
  if s.procedure.isSome then s.ignoreFrame
  else
    match after with
    | [] => (s.driveFill 1).discardFrame .short
    | check :: more =>
      if byteSum [0x6C, check] ≠ 0 then (s.driveFill (2 + more.length)).discardFrame .check
      else { s with sdo := fill 2 ++ clockOut (statusReport s.response) more.length }

end Sys2Proof.Machine
end

