-- ==== Sys2Proof/Machine/Lanes.lean ====
section
/-! DEFINITION. Video Lanes (04_video_lanes.md): the lane requests, the frame start, the signal loss and the pixel
function. -/
namespace Sys2Proof.Machine

/-! ## BIND_LANE (R74, R75), UNBIND_LANE (R76), SET_LANE_POLICY (R77) -/

/-- R75, R76: ACTIVE makes it pending and answers PENDING 0x00; NO_SIGNAL applies it at once with BINDING_APPLIED and
answers APPLIED 0x01. -/
def requestBinding (l : LaneId) (binding : Option Binding) (s : State) : Verdict :=
  match s.lanes[l].signal with
  | .active _ =>
    .done [0x00] (s.setLane l { s.lanes[l] with
      pendingBinding := match binding with | some b => .bind b | none => .unbind })
  | .noSignal =>
    .done [0x01] (s.setLane l { s.lanes[l] with
      binding := binding, pendingBinding := .absent, pending := s.lanes[l].pending ||| indBindingApplied })

/-- R74: some lane other than l names the display record. -/
def State.displayElsewhere (s : State) (l : LaneId) (h : Handle) : Bool :=
  (List.finRange 2).any fun k => k ≠ l && s.lanes[k].namesDisplay h

/-- R74: the target of an optional paper handle. -/
def State.paperTarget (s : State) (pb : Option Byte) : Option (Option (Handle × Record)) := pb.map s.target

def bindRequest (q : Caller) (lb db : Byte) (pb : Option Byte) (s : State) : Verdict :=
  refuseIf 2
    [(.noSuchRecord, missing (s.target db) || ((s.paperTarget pb).map missing).getD false),
     (.wrongKind, notKind .display (s.target db) || ((s.paperTarget pb).map (notKind .paper)).getD false),
     (.noSuchUnit, (numberOf 2 lb).isNone)]
    (refuseIf 3 [(.notAdmin, !q.admin)]
      (match numberOf 2 lb, s.target db, s.paperTarget pb with
       | some l, some (d, rd), none =>
         refuseIf 4 [(.inUse, s.displayElsewhere l d), (.noGrid, rd.bank.isNone)]
           (requestBinding l (some ⟨d, none⟩) s)
       | some l, some (d, rd), some (some (p, rp)) =>
         refuseIf 4 [(.inUse, s.displayElsewhere l d), (.noGrid, rd.bank.isNone || rp.bank.isNone)]
           (requestBinding l (some ⟨d, some p⟩) s)
       | _, _, _ => .refused 2 [.noSuchRecord]))

def bindLane : Block := fun q body s =>
  match body with
  | [lb, db] => bindRequest q lb db none s
  | [lb, db, pb] => bindRequest q lb db (some pb) s
  | _ => .refused 1 [.badLength]

/-- A request on one unit that needs an admin client: NO_SUCH_UNIT, then NOT_ADMIN. -/
def onUnit (n : Nat) (q : Caller) (b : Byte) (go : Fin n → Verdict) : Verdict :=
  match numberOf n b with
  | none => .refused 2 [.noSuchUnit]
  | some k => refuseIf 3 [(.notAdmin, !q.admin)] (go k)

def unbindLane : Block := fun q body s =>
  match body with
  | [lb] => onUnit 2 q lb fun l => requestBinding l none s
  | _ => .refused 1 [.badLength]

def setLanePolicy : Block := fun q body s =>
  match body with
  | [lb, pb] =>
    match policyOf pb with
    | none => .refused 1 [.badValue]
    | some p => onUnit 2 q lb fun l => .done [] (s.setLane l { s.lanes[l] with policy := p })
  | _ => .refused 1 [.badLength]

/-! ## READ_LANE (R86, R188) -/

def encSignal : Signal → Byte
  | .noSignal => 0
  | .active _ => 1

/-- R188: form, display and paper of a pending binding. -/
def encPendingBinding : PendingBinding → List Byte
  | .absent => [0, 0xFF, 0xFF]
  | .unbind => [1, 0xFF, 0xFF]
  | .bind b => [2, byteOf b.display.val, encNumber b.paper]

/-- R188: the lane layout, 13 bytes. -/
def laneLayout (x : Lane) : List Byte :=
  [encSignal x.signal, encNumber (x.binding.map (·.display)), encNumber (x.binding.bind (·.paper))]
    ++ encPendingBinding x.pendingBinding
    ++ [encPolicy x.policy, encMode x.mode, encNumber x.displayRef, encNumber x.paperRef, encIndex x.measuring,
        x.pending, x.enabled]

/-- The two-byte body of kind 0x43: unit class and unit number, then the layout; group 2 is NO_SUCH_UNIT. -/
def readUnit (n : Nat) (layout : Fin n → List Byte) (s : State) (body : List Byte) : Verdict :=
  match body with
  | [cls, b] =>
    match numberOf n b with
    | none => .refused 2 [.noSuchUnit]
    | some k => .done (cls :: b :: layout k) s
  | _ => .refused 1 [.badLength]

def readLane : Block := fun _ body s => readUnit 2 (fun l => laneLayout s.lanes[l]) s body

/-! ## The frame start (R70, R78 to R81, R84) -/

/-- R79: a bound record that is UNVERIFIED or LOST; a handle that names no LIVE record counts as such. -/
def State.outOfMatch (s : State) (h : Handle) : Bool :=
  match s.record? h with
  | some r => !r.state.inMatch
  | none => true

/-- R78: the binding after stage 1. -/
def Lane.boundNext (x : Lane) : Option Binding :=
  match x.pendingBinding with
  | .absent => x.binding
  | .unbind => none
  | .bind b => some b

/-- R70, R78: stage 1, with the signal made ACTIVE and its timer restarted. -/
def stageOne (x : Lane) : Lane :=
  { x with
    signal := .active Config.signalMs
    binding := x.boundNext
    pendingBinding := .absent
    pending := x.pending
      ||| (if x.signal = .noSignal then indSignalChanged else 0)
      ||| (if x.pendingBinding = .absent then 0 else indBindingApplied) }

/-- R78: the display record named by the binding changes. -/
def Lane.reattaches (x : Lane) : Bool := x.boundNext.map (·.display) ≠ x.binding.map (·.display)

/-- R79: the first line of the table that holds. -/
def chooseMode (s : State) (l : LaneId) : Mode :=
  if s.channels[probeOf l].strip.isSome then .measuring
  else
    match s.lanes[l].binding with
    | none => .pass
    | some ⟨_, none⟩ => .pass
    | some ⟨d, some p⟩ =>
      if s.lanes[l].policy = .fallback ∧ (s.outOfMatch d || s.outOfMatch p) then .fallback else .proof

/-- R84: readings held, capped at the declared count minus 1. -/
def measuringIndex (s : State) (l : LaneId) : Option Nat :=
  s.channels[probeOf l].strip.map fun st => min st.readings.length (st.count - 1)

/-- R84: the Lab triple of patch m of the bound display record. -/
def patchOfFrame (s : State) (l : LaneId) : Option Triple :=
  (measuringIndex s l).bind fun m =>
    (s.lanes[l].binding.bind fun b => s.record? b.display).bind fun r => r.patches[m]?

/-- R52: the trim of the bound paper record as it stands at the frame start. -/
def trimOfFrame (s : State) (l : LaneId) : Option Trim :=
  ((s.lanes[l].binding.bind (·.paper)).bind s.record?).map (·.trim)

/-- R81: the records named for the mode. -/
def changeFor (mode : Mode) (binding : Option Binding) : RefChange :=
  match mode with
  | .proof => ⟨binding.map (·.display), binding.bind (·.paper)⟩
  | .measuring => ⟨binding.map (·.display), none⟩
  | .pass => ⟨none, none⟩
  | .fallback => ⟨none, none⟩

/-- R80: FALLBACK is entered or left. -/
def fallbackMask (before after : Mode) : Byte :=
  if before = .fallback ↔ after = .fallback then 0 else indFallbackChanged

/-- Stages 2 and 3 with the mode chosen: the lane's fields for the frame, and the reference change handed over. -/
def enterFrame (s : State) (l : LaneId) (mode : Mode) : Lane :=
  { s.lanes[l] with
    mode := mode
    measuring := if mode = .measuring then measuringIndex s l else none
    framePatch := if mode = .measuring then patchOfFrame s l else none
    frameTrim := if mode = .proof then trimOfFrame s l else none
    changes := s.lanes[l].changes ++ [changeFor mode s.lanes[l].binding]
    pending := s.lanes[l].pending ||| fallbackMask s.lanes[l].mode mode }

/-- Stage 1 on the lane and on its probe channel (R78). -/
def takeUp (l : LaneId) (s : State) : State :=
  if s.lanes[l].reattaches then (s.setLane l (stageOne s.lanes[l])).abandonStrip (probeOf l) .changed
  else s.setLane l (stageOne s.lanes[l])

/-- Stages 2 and 3. -/
def chooseFrame (l : LaneId) (s : State) : State := s.setLane l (enterFrame s l (chooseMode s l))

/-- FRAME_START (R70). -/
def frameStart (l : LaneId) (s : State) : State := s.event (chooseFrame l (takeUp l s))

/-! ## SIGNAL_LOSS (R71) -/

/-- R71: the lane after the loss. -/
def Lane.lost (x : Lane) : Lane :=
  { x with
    signal := .noSignal
    mode := .pass
    displayRef := none
    paperRef := none
    measuring := none
    frameTrim := none
    framePatch := none
    changes := []
    pending := x.pending ||| indSignalChanged ||| fallbackMask x.mode .pass }

def loseSignal (l : LaneId) (s : State) : State :=
  ((s.setLane l s.lanes[l].lost).abandonStrip (probeOf l) .noSignal).endDrains

/-- SIGNAL_LOSS; no event in NO_SIGNAL, where the timer is stopped (log 5). -/
def signalLoss (l : LaneId) (s : State) : State :=
  s.event
    (match s.lanes[l].signal with
     | .noSignal => s
     | .active _ => loseSignal l s)

/-! ## Pixels (R69, R82 to R84) -/

/-- R69: the device triple of a pixel word. -/
def PixelWord.triple (w : PixelWord) : Triple := ⟨w.r.toNat, w.g.toNat, w.b.toNat⟩

/-- R69: the pixel word of a device triple in range. -/
def Triple.word (t : Triple) : PixelWord := ⟨.ofInt 10 t.x, .ofInt 10 t.y, .ofInt 10 t.z⟩

/-- R82 to R84: what a pixel becomes in the lane's effective mode. `none` is a pixel that no lane presents: before the
frame's reference change has been taken (R81). -/
def State.pixelOut (s : State) (l : LaneId) (w : PixelWord) : Option PixelWord :=
  match s.lanes[l].mode with
  | .pass => some w
  | .fallback => some w
  | .proof =>
    match s.lanes[l].changes, s.lanes[l].displayRef, s.lanes[l].paperRef, s.lanes[l].frameTrim with
    | [], some d, some p, some t => some (proofTransform s.banks[p] t s.banks[d] w.triple).2.2.word
    | _, _, _, _ => none
  | .measuring =>
    match s.lanes[l].changes, s.lanes[l].displayRef, s.lanes[l].framePatch with
    | [], some d, some patch => some (renderTransform s.banks[d] patch).word
    | _, _, _ => none

/-- R69: the signals on a lane's output for those on its input (log 17): the data enable and the frame start pass
unchanged, and so does a word outside the data enable; a pixel is transformed. -/
def State.videoOut (s : State) (l : LaneId) (v : VideoSignals) : Option VideoSignals :=
  if v.dataEnable then (s.pixelOut l v.word).map fun w => { v with word := w } else some v

/-! ## The meanings -/

def execBindLane (client : Byte) (body : List Byte) (s : State) : Host.Outcome State Fault Refusal :=
  .next (takeRequest 0x40 bindLane client body s)

def execUnbindLane (client : Byte) (body : List Byte) (s : State) : Host.Outcome State Fault Refusal :=
  .next (takeRequest 0x41 unbindLane client body s)

def execSetLanePolicy (client : Byte) (body : List Byte) (s : State) : Host.Outcome State Fault Refusal :=
  .next (takeRequest 0x42 setLanePolicy client body s)

/-- Kind 0x43 with unit class lane, 0x00. -/
def execReadLane (client : Byte) (rest : List Byte) (s : State) : Host.Outcome State Fault Refusal :=
  .next (takeRequest 0x43 readLane client (0x00 :: rest) s)

def execFrameStart (lane : LaneId) (s : State) : Host.Outcome State Fault Refusal := .next (frameStart lane s)

def execSignalLoss (lane : LaneId) (s : State) : Host.Outcome State Fault Refusal := .next (signalLoss lane s)

end Sys2Proof.Machine
end

