-- ==== Sys2Proof/Machine/Supervisor.lean ====
section
/-! DEFINITION. The Supervisor (R162 to R168): the start of a procedure, the onsets, the end of a condition and the
end of a hold. -/
namespace Sys2Proof.Machine

/-- R162: the reset source of a condition. -/
def sourceOfCondition : ResetCondition → ResetSource
  | .powerOn => .powerOn
  | .supplyLow => .supplyLow
  | .coreClockFail => .coreClockFail
  | .pin => .pin

def Conditions.has (c : Conditions) : ResetCondition → Bool
  | .powerOn => c.powerOn
  | .supplyLow => c.supplyLow
  | .coreClockFail => c.coreClockFail
  | .pin => c.pin

/-- R162: a supply below the power-on thresholds is below the supply-low thresholds too (log 11). -/
def Conditions.begin (c : Conditions) : ResetCondition → Conditions
  | .powerOn => { c with powerOn := true, supplyLow := true }
  | .supplyLow => { c with supplyLow := true }
  | .coreClockFail => { c with coreClockFail := true }
  | .pin => { c with pin := true }

/-- R162: a supply above the supply-low thresholds is above the power-on thresholds too (log 11). -/
def Conditions.finish (c : Conditions) : ResetCondition → Conditions
  | .powerOn => { c with powerOn := false }
  | .supplyLow => { c with supplyLow := false, powerOn := false }
  | .coreClockFail => { c with coreClockFail := false }
  | .pin => { c with pin := false }

/-- R164: some condition of the priority is present. -/
def Conditions.atPriority (c : Conditions) (priority : Nat) : Bool :=
  (c.powerOn && priority = 1) || (c.supplyLow && priority = 2) || (c.coreClockFail && priority = 2)
    || (c.pin && priority = 3)

def Procedure.priority (p : Procedure) : Nat := p.source.priority

def Procedure.flags (p : Procedure) : Byte :=
  p.source.flag ||| (match p.second with | some x => x.flag | none => 0)

/-- R166, R167: every block returns to its reset values, and the reset reasons are set: the flags of lower priority
are cleared, the procedure's own are set. The queue and the conditions are not the blocks'. -/
def startProcedure (p : Procedure) (s : State) : State :=
  { State.blank with
    global := { Global.blank with resetReasons := s.global.resetReasons &&& keptReasons p.priority ||| p.flags }
    procedure := some p
    conditions := s.conditions
    pending := s.pending }

/-- R165: an onset of the running procedure's priority restarts the hold and sets its own flag. -/
def restartHold (p : Procedure) (src : ResetSource) (s : State) : State :=
  { s with
    global := { s.global with resetReasons := s.global.resetReasons ||| src.flag }
    procedure := some { p with phase := .condition } }

/-- R162, R165: an onset, by its priority relative to the running procedure; a lower one is ignored. -/
def onsetOn (src : ResetSource) (s : State) : State :=
  match s.procedure with
  | none => startProcedure ⟨src, none, .condition⟩ s
  | some p =>
    if src.priority < p.priority then startProcedure ⟨src, none, .condition⟩ s
    else if src.priority = p.priority then restartHold p src s
    else s

def onset (c : ResetCondition) (s : State) : State :=
  onsetOn (sourceOfCondition c) { s with conditions := s.conditions.begin c }

/-- R164: when no condition of the procedure's priority is left, the hold timer is started. -/
def settlePhase (s : State) : State :=
  match s.procedure with
  | none => s
  | some p =>
    match p.phase with
    | .hold _ => s
    | .condition =>
      if s.conditions.atPriority p.priority then s
      else { s with procedure := some { p with phase := .hold (holdMs p.priority) } }

/-- CONDITION_END; no event for a condition that is not present (log 5). -/
def conditionEnd (c : ResetCondition) (s : State) : State :=
  if s.conditions.has c then settlePhase { s with conditions := s.conditions.finish c } else s

/-- R168: the procedure that takes up the conditions of lower priority present, if any. -/
def continuation (c : Conditions) (priority : Nat) : Option Procedure :=
  if priority < 2 ∧ c.supplyLow then
    some ⟨.supplyLow, if c.coreClockFail then some .coreClockFail else none, .condition⟩
  else if priority < 2 ∧ c.coreClockFail then some ⟨.coreClockFail, none, .condition⟩
  else if priority < 3 ∧ c.pin then some ⟨.pin, none, .condition⟩
  else none

/-- R161, R168: the procedure ends, and RESET_OCCURRED is latched. -/
def endProcedure (s : State) : State :=
  { s with
    procedure := none
    global := { s.global with pending := s.global.pending ||| indResetOccurred } }

/-- HOLD_TIMER_EXPIRY; no event where no hold timer runs (log 5). -/
def holdExpiry (s : State) : State :=
  match s.procedure with
  | none => s
  | some p =>
    match p.phase with
    | .condition => s
    | .hold _ =>
      match continuation s.conditions p.priority with
      | some next => startProcedure next s
      | none => endProcedure s

/-! ## The meanings -/

def execPowerOnOnset (s : State) : Host.Outcome State Fault Refusal := .next (onset .powerOn s)

def execSupplyLowOnset (s : State) : Host.Outcome State Fault Refusal := .next (onset .supplyLow s)

def execCoreClockFailOnset (s : State) : Host.Outcome State Fault Refusal := .next (onset .coreClockFail s)

def execPinOnset (s : State) : Host.Outcome State Fault Refusal := .next (onset .pin s)

def execConditionEnd (condition : ResetCondition) (s : State) : Host.Outcome State Fault Refusal :=
  .next (conditionEnd condition s)

def execHoldTimerExpiry (s : State) : Host.Outcome State Fault Refusal := .next (holdExpiry s)

end Sys2Proof.Machine
end

