-- ==== Sys2Proof/Machine/Clients.lean ====
section
/-! DEFINITION. SET_CLIENT, CLEAR_TABLES and RESTART (09_host_link_clients_and_refusals.md). -/
namespace Sys2Proof.Machine

/-! ## SET_CLIENT (R177) -/

def setClient : Block := fun q body s =>
  match body with
  | [cb, sb, ab] =>
    match onOff sb, onOff ab with
    | some strict, some admin =>
      refuseIf 1 [(.badValue, cb = 0 && !admin)]
        (onUnit 8 q cb fun c => .done [sb, ab] { s with clients := s.clients.set c ⟨strict, admin⟩ })
    | _, _ => .refused 1 [.badValue]
  | _ => .refused 1 [.badLength]

/-! ## CLEAR_TABLES (R182, R183) -/

/-- R87: the lane after CLEAR_TABLES; signal, timer, policy and enabled set are kept. -/
def Lane.cleared (x : Lane) : Lane :=
  { x with
    binding := none
    pendingBinding := .absent
    mode := .pass
    displayRef := none
    paperRef := none
    measuring := none
    frameTrim := none
    framePatch := none
    changes := []
    pending := 0 }

/-- R109: the channel after CLEAR_TABLES; the correction and the enabled set are kept. -/
def Channel.cleared (x : Channel) : Channel := { x with strip := none, lastAbandon := none, pending := 0 }

/-- R149: the slot after CLEAR_TABLES; the override, T1, T2 and the enabled set are kept. -/
def PrinterSlot.cleared (x : PrinterSlot) : PrinterSlot := { x with paper := none, line := .off, pending := 0 }

/-- R183: every block clears its tables in one event (R23, R49, R87, R109, R149, R160). -/
def State.cleared (s : State) : State :=
  { s with
    records := Vector.replicate 48 RecordSlot.blank
    contexts := Vector.replicate 4 .idle
    lanes := s.lanes.map Lane.cleared
    channels := s.channels.map Channel.cleared
    slots := s.slots.map PrinterSlot.cleared }

def clearTables : Block := fun q body s =>
  match body with
  | [] => refuseIf 3 [(.notAdmin, !q.admin)] (.done [] s.cleared)
  | _ => .refused 1 [.badLength]

/-! ## RESTART (R184, R169) -/

/-- R169: a RESTART procedure begins in HOLD, its timer at 2 ms. -/
def restartProcedure : Procedure := ⟨.restart, none, .hold (holdMs ResetSource.restart.priority)⟩

/-- R169, R184: the procedure starts in the event that takes the RESTART. SDO carried fill bytes while the frame of
this RESTART was sent (R170), which `sdo` keeps. -/
def beginRestart (s : State) : State := { startProcedure restartProcedure s with sdo := s.sdo }

def restart : Block := fun q body s =>
  match body with
  | [] => refuseIf 3 [(.notAdmin, !q.admin)] (.restarted (beginRestart s))
  | _ => .refused 1 [.badLength]

/-! ## The meanings -/

def execSetClient (client : Byte) (body : List Byte) (s : State) : Host.Outcome State Fault Refusal :=
  .next (takeRequest 0x90 setClient client body s)

def execClearTables (client : Byte) (body : List Byte) (s : State) : Host.Outcome State Fault Refusal :=
  .next (takeRequest 0x91 clearTables client body s)

def execRestart (client : Byte) (body : List Byte) (s : State) : Host.Outcome State Fault Refusal :=
  .next (takeRequest 0x92 restart client body s)

end Sys2Proof.Machine
end

