-- ==== Sys2Proof/Machine/Records.lean ====
section
/-! DEFINITION. The Record Table's requests (01_proof_records.md): CREATE_RECORD, FIND_RECORD, READ_RECORD,
SET_ACCESS, RETIRE_RECORD. -/
namespace Sys2Proof.Machine

/-! ## CREATE_RECORD (R10 to R12) -/

/-- R188: the sets a body carries by its presence mask. An undefined mask is BAD_VALUE of step 2, and a body that
does not fit the mask is BAD_LENGTH (R186). -/
def createSets (presence : Byte) (sets : List Byte) : Except Cause (Option Byte × Option Byte) :=
  if 3 < presence.toNat then .error .badValue
  else if presence = 0 then match sets with | [] => .ok (none, none) | _ => .error .badLength
  else if presence = 1 then match sets with | [c] => .ok (some c, none) | _ => .error .badLength
  else if presence = 2 then match sets with | [l] => .ok (none, some l) | _ => .error .badLength
  else match sets with | [c, l] => .ok (some c, some l) | _ => .error .badLength

/-- R10: a LIVE or RETIRING record holds the key. -/
def State.keyHeld (s : State) (k : Key) : Bool := s.records.any fun r => r.key? = some k

/-- The lowest-numbered FREE slot. -/
def State.lowestFree (s : State) : Option Handle :=
  (List.finRange 48).find? fun h => s.records[h].content = .free

/-- R11: the fields of a new record. -/
def newRecord (k : Key) (owner : ClientId) (change lookup : Option Byte) : Record :=
  { data := match k.kind with | .paper => .paper PaperFields.new | .display => .display
    media := k.media
    variant := k.variant
    owner := owner
    change := change.getD (clientBit owner)
    lookup := lookup.getD 0xFF
    bank := none
    patches := []
    settings := Settings.default
    state := .unverified
    passStreak := 0
    failStreak := 0
    windowStrips := 0
    windowFailing := 0
    hold := none
    passed := 0
    failed := 0
    voided := 0 }

/-- R10's group 4, then R11 and R12: both indication sets of the slot are emptied. -/
def createKey (q : Caller) (k : Key) (sets : Option Byte × Option Byte) (s : State) : Verdict :=
  match s.lowestFree, s.keyHeld k with
  | some h, false => .done [byteOf h.val] (s.setRecord h ⟨.live (newRecord k q.id sets.1 sets.2), 0, 0⟩)
  | free, held => .refused 4 (failing [(.keyTaken, held), (.tableFull, free.isNone)])

def createRecord : Block := fun q body s =>
  match body with
  | kind :: m1 :: m0 :: variant :: presence :: sets =>
    match createSets presence sets with
    | .error c => .refused 1 [c]
    | .ok sets =>
      match kindOf kind with
      | none => .refused 1 [.badValue]
      | some k =>
        refuseIf 1 [(.badValue, u16 m1 m0 = 0)] (createKey q ⟨k, u16 m1 m0, variant.toNat⟩ sets s)
  | _ => .refused 1 [.badLength]

/-! ## FIND_RECORD (R13) -/

/-- The LIVE record that holds a key. -/
def State.find (s : State) (k : Key) : Option (Handle × Record) :=
  (List.finRange 48).findSome? fun h =>
    match s.record? h with
    | some r => if r.key = k then some (h, r) else none
    | none => none

def findRecord : Block := fun q body s =>
  match body with
  | [kind, m1, m0, variant] =>
    match kindOf kind with
    | none => .refused 1 [.badValue]
    | some k =>
      refuseIf 1 [(.badValue, u16 m1 m0 = 0)]
        (match s.find ⟨k, u16 m1 m0, variant.toNat⟩ with
         | none => .refused 2 [.noSuchRecord]
         | some (h, r) => refuseIf 3 [(.notPermitted, !q.canLookup r)] (.done [byteOf h.val] s))
  | _ => .refused 1 [.badLength]

/-! ## READ_RECORD (R14, R188 record layout) -/

/-- R118, R188: the eleven settings, 13 bytes; a DISPLAY record gives white limit 0 and trim follow off. -/
def encSettings (r : Record) : List Byte :=
  [byteOf r.settings.acquire, byteOf r.settings.loss, encBool r.settings.autoReacquire, encBool r.settings.pinned]
    ++ enc16 r.settings.patchLimit
    ++ [byteOf r.settings.tolerance, byteOf r.settings.excessive, encBool r.settings.excessForcesLoss]
    ++ enc16 ((r.paper?.map (·.whiteLimit)).getD 0)
    ++ [encBool ((r.paper?.map (·.trimFollow)).getD false), encBool r.settings.clearOnRead]

/-- R33: the members of a coverage, counted. -/
def coverageCount (c : Coverage) : Nat := (List.range Config.nodes).countP fun n => c.getLsbD n

/-- R188: the coverage a context reports; CHECKING has all 729 (R33). -/
def Context.coverageCount : Context → Nat
  | .idle => 0
  | .loading _ _ c _ => Sys2Proof.Machine.coverageCount c
  | .checking _ _ _ _ _ => Config.nodes

/-- R186: IDLE 0x00, LOADING 0x01, CHECKING 0x02. -/
def Context.code : Context → Byte
  | .idle => 0
  | .loading _ _ _ _ => 1
  | .checking _ _ _ _ _ => 2

/-- The patch set as a count and its triples. -/
def encPatches (ps : List Triple) : List Byte := byteOf ps.length :: ps.flatMap encTriple

/-- R188: the record layout, 76 + 6n bytes. -/
def recordLayout (s : State) (h : Handle) (r : Record) : List Byte :=
  [byteOf h.val, 0x01, encKind r.kind] ++ enc16 r.media
    ++ [byteOf r.variant, byteOf r.owner.val, r.change, r.lookup, encNumber r.bank,
        encNumber ((s.stagingOf h).map (·.1)), ((s.stagingOf h).map (·.2.code)).getD 0]
    ++ enc16 (((s.stagingOf h).map (·.2.coverageCount)).getD 0)
    ++ encTrim r.trim
    ++ [encIndex (r.paper?.bind (·.whitePatch))]
    ++ encOptTriple (r.paper?.bind (·.nominalWhite))
    ++ encSettings r
    ++ [encMatchState r.state, byteOf r.passStreak, byteOf r.failStreak, byteOf r.windowStrips]
    ++ enc16 r.windowFailing
    ++ encHold r.hold
    ++ encOptTriple (r.paper?.bind (·.whiteCandidate))
    ++ encOptTriple (r.paper?.bind (·.measuredWhite))
    ++ enc16 r.passed ++ enc16 r.failed ++ enc16 r.voided
    ++ [s.records[h].pending, s.records[h].enabled]
    ++ encPatches r.patches

def readRecord : Block := fun q body s =>
  match body with
  | [b] => onRecord s b q.canLookup fun h r => .done (recordLayout s h r) s
  | _ => .refused 1 [.badLength]

/-! ## SET_ACCESS (R15) -/

def setAccess : Block := fun q body s =>
  match body with
  | [b, change, lookup] =>
    onRecord s b q.isOwner fun h r => .done [] (s.putRecord h { r with change := change, lookup := lookup })
  | _ => .refused 1 [.badLength]

/-! ## RETIRE_RECORD (R16 to R22) -/

/-- R17 step 1: a LOADING context of the record returns to IDLE. -/
def State.dropStaging (s : State) (h : Handle) : State :=
  match s.stagingOf h with
  | none => s
  | some (c, _) => s.setContext c .idle

/-- R16: the staging context is CHECKING. -/
def State.isChecking (s : State) (h : Handle) : Bool :=
  match s.stagingOf h with
  | some (_, .checking _ _ _ _ _) => true
  | some (_, .loading _ _ _ _) => false
  | some (_, .idle) => false
  | none => false

/-- R18: RETIRING while a lane's frame reference still holds the former current bank, FREE otherwise. -/
def retire (h : Handle) (r : Record) (s : State) : Verdict :=
  match r.bank.filter s.laneHolds with
  | some b =>
    .done [0x02] ((s.dropStaging h).setRecord h { s.records[h] with content := .retiring r.key b })
  | none => .done [0x00] ((s.dropStaging h).setRecord h s.records[h].retired)

def retireRecord : Block := fun q body s =>
  match body with
  | [b] =>
    onRecord s b q.canChange fun h r =>
      refuseIf 4 [(.busy, s.isChecking h), (.inUse, s.inUse h)] (retire h r s)
  | _ => .refused 1 [.badLength]

/-! ## The meanings -/

def execCreateRecord (client : Byte) (body : List Byte) (s : State) : Host.Outcome State Fault Refusal :=
  .next (takeRequest 0x10 createRecord client body s)

def execFindRecord (client : Byte) (body : List Byte) (s : State) : Host.Outcome State Fault Refusal :=
  .next (takeRequest 0x11 findRecord client body s)

def execReadRecord (client : Byte) (body : List Byte) (s : State) : Host.Outcome State Fault Refusal :=
  .next (takeRequest 0x12 readRecord client body s)

def execSetAccess (client : Byte) (body : List Byte) (s : State) : Host.Outcome State Fault Refusal :=
  .next (takeRequest 0x13 setAccess client body s)

def execRetireRecord (client : Byte) (body : List Byte) (s : State) : Host.Outcome State Fault Refusal :=
  .next (takeRequest 0x14 retireRecord client body s)

end Sys2Proof.Machine
end

