-- ==== Sys2Proof/Machine/GridPool.lean ====
section
/-! DEFINITION. The Grid Pool (02_the_grid_pool_and_grid_loading.md): loading, the commit and its check, reading the
pool, expiry and the reference change. -/
namespace Sys2Proof.Machine

/-! ## BEGIN_GRID (R34, R35) -/

def beginGrid : Block := fun q body s =>
  match body with
  | [hb] =>
    onRecord s hb q.canChange fun h _ =>
      match s.lowestFreeBank, s.lowestIdleContext, (s.stagingOf h).isSome with
      | some b, some c, false =>
        .done [byteOf c.val, byteOf b.val]
          ((s.setBank b []).setContext c (.loading h b 0 Config.stagingMs))
      | bank, context, staged =>
        .refused 4 (failing [(.busy, staged), (.poolEmpty, bank.isNone), (.noStaging, context.isNone)])
  | _ => .refused 1 [.badLength]

/-! ## GRID_CHUNK (R36, R37) -/

/-- R25: a PAPER node is a Lab triple, a DISPLAY node a device triple. -/
def nodeForm : Kind → Byte → Byte → Byte → Byte → Byte → Byte → Triple
  | .paper => labOf
  | .display => deviceOf

/-- R26: the range of a node value. -/
def nodeInRange : Kind → Triple → Bool
  | .paper => labInRange
  | .display => deviceInRange

/-- The set of `count` node indices from `first` on. -/
def runMask (first count : Nat) : Coverage := BitVec.ofNat 729 ((2 ^ count - 1) <<< first)

/-- R37: write the values, cover their indices, restart the expiry timer. -/
def chunk (h : Handle) (first : Nat) (values : List Triple) (s : State) : Verdict :=
  match s.stagingOf h with
  | some (c, .loading _ b coverage _) =>
    .done (enc16 (coverageCount (coverage ||| runMask first values.length)))
      ((s.setBank b ((s.banks[b]).writeRun first values)).setContext c
        (.loading h b (coverage ||| runMask first values.length) Config.stagingMs))
  | some (_, .checking _ _ _ _ _) => .refused 4 [.busy]
  | some (_, .idle) => .refused 4 [.notStaging]
  | none => .refused 4 [.notStaging]

def gridChunk : Block := fun q body s =>
  match body with
  | hb :: n1 :: n0 :: count :: rest =>
    if count = 0 ∨ 27 < count.toNat then .refused 1 [.badValue]
    else if rest.length ≠ 6 * count.toNat then .refused 1 [.badLength]
    else if 728 < u16 n1 n0 + count.toNat - 1 then .refused 1 [.badValue]
    else
      match s.target hb with
      | none => .refused 2 [.noSuchRecord]
      | some (h, r) =>
        refuseIf 1 [(.badValue, !(triplesOf (nodeForm r.kind) rest).all (nodeInRange r.kind))]
          (refuseIf 3 [(.notPermitted, !q.canChange r)]
            (chunk h (u16 n1 n0) (triplesOf (nodeForm r.kind) rest) s))
  | _ => .refused 1 [.badLength]

/-! ## COMMIT_GRID (R41) -/

def commit (q : Caller) (h : Handle) (s : State) : Verdict :=
  match s.stagingOf h with
  | some (c, .loading _ b coverage _) =>
    if coverage = BitVec.allOnes 729 then
      .committed (s.setContext c (.checking h b Config.checkMs q.id q.strict))
    else .refused 4 [.incomplete]
  | some (_, .checking _ _ _ _ _) => .refused 4 [.busy]
  | some (_, .idle) => .refused 4 [.notStaging]
  | none => .refused 4 [.notStaging]

def commitGrid : Block := fun q body s =>
  match body with
  | [hb] => onRecord s hb q.canChange fun h _ => commit q h s
  | _ => .refused 1 [.badLength]

/-! ## ABANDON_GRID (R38) -/

def abandonLoad (h : Handle) (s : State) : Verdict :=
  match s.stagingOf h with
  | some (c, .loading _ _ _ _) => .done [] (s.setContext c .idle)
  | some (_, .checking _ _ _ _ _) => .refused 4 [.busy]
  | some (_, .idle) => .refused 4 [.notStaging]
  | none => .refused 4 [.notStaging]

def abandonGrid : Block := fun q body s =>
  match body with
  | [hb] => onRecord s hb q.canChange fun h _ => abandonLoad h s
  | _ => .refused 1 [.badLength]

/-! ## READ_POOL (R47), READ_NODE (R48) -/

/-- R188: four bytes a bank. -/
def bankLayout (s : State) (b : BankId) : List Byte :=
  [encNumber (s.recordHolder b), encBool (s.recordHolder b).isSome, encNumber (s.contextHolder b), s.laneMask b]

/-- R47: the time left, for LOADING; R188 sends 0 for IDLE. DESIGN CHOICE (log 25, unsafe): R47 gives no time left for
CHECKING, and the field is sent as 0. -/
def Context.timeLeft : Context → Nat
  | .idle => 0
  | .loading _ _ _ t => t
  | .checking _ _ _ _ _ => 0

/-- R188: seven bytes a context. -/
def contextLayout (x : Context) : List Byte :=
  [x.code, encNumber x.record?, encNumber x.bank?] ++ enc16 x.coverageCount ++ enc16 x.timeLeft

/-- R47: the number of free banks. -/
def State.freeBanks (s : State) : Nat := (List.finRange 24).countP s.bankFree

/-- R188: the pool layout, 125 bytes. -/
def poolLayout (s : State) : List Byte :=
  byteOf s.freeBanks :: ((List.finRange 24).flatMap (bankLayout s)
    ++ (List.finRange 4).flatMap fun c => contextLayout s.contexts[c])

def readPool : Block := fun _ body s =>
  match body with
  | [] => .done (poolLayout s) s
  | _ => .refused 1 [.badLength]

def readNode : Block := fun q body s =>
  match body with
  | [hb, n1, n0] =>
    refuseIf 1 [(.badValue, 728 < u16 n1 n0)]
      (onRecord s hb q.canLookup fun _ r =>
        match r.bank with
        | none => .refused 4 [.noGrid]
        | some b => .done (encTriple ((s.banks[b]).read (u16 n1 n0))) s)
  | _ => .refused 1 [.badLength]

/-! ## The commit check (R42 to R46) -/

/-- R42: the nine nodes of the neutral axis. -/
def neutralNode (kind : Kind) (ns : Nodes) (n : Nat) : Triple :=
  match kind with
  | .paper => ns.read (nodeIndex n n n)
  | .display => ns.read (nodeIndex n 4 4)

/-- R42: the components that decrease from one node to the next: L alone for PAPER, R, G and B for DISPLAY. -/
def decreasing (kind : Kind) (before after : Triple) : Byte :=
  match kind with
  | .paper => if after.x < before.x then 1 else 0
  | .display =>
    (if after.x < before.x then 1 else 0) ||| (if after.y < before.y then 2 else 0)
      ||| (if after.z < before.z then 4 else 0)

/-- R42: the lowest failing step 1..8 with its decreasing components; none when the check passes. -/
def failingStep (kind : Kind) (ns : Nodes) : Option (Nat × Byte) :=
  (List.range 8).findSome? fun i =>
    if decreasing kind (neutralNode kind ns i) (neutralNode kind ns (i + 1)) = 0 then none
    else some (i + 1, decreasing kind (neutralNode kind ns i) (neutralNode kind ns (i + 1)))

/-- R43: the components reported, 0x00 for PAPER (R188). -/
def reportedComponents (kind : Kind) (components : Byte) : Byte :=
  match kind with
  | .paper => 0
  | .display => components

/-- R44, R45: the record after a passing commit takes bank b. -/
def Record.committed (r : Record) (b : BankId) : Record :=
  { (r.unverify.onPaper fun p => { p with trim := Trim.zero, whiteCandidate := none, measuredWhite := none })
    with bank := some b }

/-- R44, R45: the passing commit, apart from the response. -/
def passCommit (c : ContextId) (h : Handle) (r : Record) (b : BankId) (s : State) : State :=
  s.settleLines
    (((s.setContext c .idle).setRecord h
      ⟨.live (r.committed b), s.records[h].pending ||| r.unverifyMask, s.records[h].enabled⟩).abandonAttached h)

/-- R43: the failed check returns the context to LOADING with full coverage and a fresh expiry. -/
def failCommit (c : ContextId) (h : Handle) (b : BankId) (s : State) : State :=
  s.setContext c (.loading h b (BitVec.allOnes 729) Config.stagingMs)

/-- R43, R44: the completion of one check, with the response of the commit (kind 0x22). -/
def completeCheck (c : ContextId) (h : Handle) (b : BankId) (client : ClientId) (strict : Bool) (r : Record)
    (s : State) : State :=
  match failingStep r.kind s.banks[b] with
  | none => (passCommit c h r b s).respond 0x22 .done 0 [] [byteOf b.val]
  | some (n, components) =>
    ((failCommit c h b s).respond 0x22 .refused 4 [.gridCheck]
      [byteOf n, reportedComponents r.kind components]).noteFault client strict

/-- The running check, if one runs. -/
def State.runningCheck (s : State) : Option (ContextId × Handle × BankId × ClientId × Bool) :=
  (List.finRange 4).findSome? fun c =>
    match s.contexts[c] with
    | .checking h b _ client strict => some (c, h, b, client, strict)
    | .idle => none
    | .loading _ _ _ _ => none

/-- CHECK_COMPLETES: no event when no check runs (log 5). -/
def checkCompletes (s : State) : State :=
  s.event
    (match s.runningCheck with
     | none => s
     | some (c, h, b, client, strict) =>
       match s.record? h with
       | none => s
       | some r => completeCheck c h b client strict r s)

/-! ## STAGING_EXPIRY (R39) -/

/-- R39: the expiry of a LOADING context; no event in IDLE or CHECKING, whose timers are stopped (log 5). -/
def stagingExpiry (c : ContextId) (s : State) : State :=
  s.event
    (match s.contexts[c] with
     | .loading h _ _ _ =>
       { s.setContext c .idle with
         global := { s.global with
           pending := s.global.pending ||| indStagingExpired, expired := s.global.expired ||| handleBit h } }
     | .idle => s
     | .checking _ _ _ _ _ => s)

/-! ## REFERENCE_CHANGE (R31, R81) -/

/-- R31: the banks a change takes are the named records' current banks as they stand now. -/
def takeChange (l : LaneId) (change : RefChange) (rest : List RefChange) (s : State) : State :=
  (s.setLane l { s.lanes[l] with
    displayRef := change.display.bind s.bankOf, paperRef := change.paper.bind s.bankOf, changes := rest }).endDrains

/-- The Grid Pool takes the lane's oldest reference change; no event when there is none (log 5). -/
def referenceChange (l : LaneId) (s : State) : State :=
  s.event
    (match s.lanes[l].changes with
     | [] => s
     | change :: rest => takeChange l change rest s)

/-! ## The meanings -/

def execBeginGrid (client : Byte) (body : List Byte) (s : State) : Host.Outcome State Fault Refusal :=
  .next (takeRequest 0x20 beginGrid client body s)

def execGridChunk (client : Byte) (body : List Byte) (s : State) : Host.Outcome State Fault Refusal :=
  .next (takeRequest 0x21 gridChunk client body s)

def execCommitGrid (client : Byte) (body : List Byte) (s : State) : Host.Outcome State Fault Refusal :=
  .next (takeRequest 0x22 commitGrid client body s)

def execAbandonGrid (client : Byte) (body : List Byte) (s : State) : Host.Outcome State Fault Refusal :=
  .next (takeRequest 0x23 abandonGrid client body s)

def execReadPool (client : Byte) (body : List Byte) (s : State) : Host.Outcome State Fault Refusal :=
  .next (takeRequest 0x24 readPool client body s)

def execReadNode (client : Byte) (body : List Byte) (s : State) : Host.Outcome State Fault Refusal :=
  .next (takeRequest 0x25 readNode client body s)

def execCheckCompletes (s : State) : Host.Outcome State Fault Refusal := .next (checkCompletes s)

def execStagingExpiry (context : ContextId) (s : State) : Host.Outcome State Fault Refusal :=
  .next (stagingExpiry context s)

def execReferenceChange (lane : LaneId) (s : State) : Host.Outcome State Fault Refusal :=
  .next (referenceChange lane s)

end Sys2Proof.Machine
end

