-- ==== Sys2Proof/Machine/Indications.lean ====
section
/-! DEFINITION. READ_NOTICES, ACK_INDICATIONS and SET_ENABLES (08_indications_and_supervision.md). -/
namespace Sys2Proof.Machine

/-! ## READ_NOTICES (R155, R188 notice layout) -/

/-- R188: the 48-bit expired set, high byte first. -/
def enc48 (v : BitVec 48) : List Byte :=
  [(v >>> 40).setWidth 8, (v >>> 32).setWidth 8, (v >>> 24).setWidth 8, (v >>> 16).setWidth 8,
   (v >>> 8).setWidth 8, v.setWidth 8]

/-- R186: source class code and source number. -/
def Source.code : Source → List Byte
  | .global => [0, 0]
  | .slot n => [1, byteOf n.val]
  | .lane n => [2, byteOf n.val]
  | .channel n => [3, byteOf n.val]
  | .record h => [4, byteOf h.val]

/-- R155: the last abandon cause of a channel, 0xFF for the other classes. -/
def State.noticeCause (s : State) : Source → Byte
  | .channel n => encAbandon s.channels[n].lastAbandon
  | .global => 0xFF
  | .slot _ => 0xFF
  | .lane _ => 0xFF
  | .record _ => 0xFF

/-- R155: one entry of the notice list. -/
def noticeEntry (s : State) (src : Source) : List Byte :=
  src.code ++ [s.pendingOf src, encBool (s.anyEnabled src), s.noticeCause src]

/-- R155: the sources with a pending indication, in the order of the list. -/
def State.notices (s : State) : List Source := allSources.filter fun src => s.pendingOf src ≠ 0

/-- R188: the notice layout, 12 + 5e bytes. -/
def noticeLayout (s : State) : List Byte :=
  [encBool s.attn, s.global.resetReasons] ++ enc48 s.global.expired
    ++ [encLinkFault s.global.linkError, encInstrumentFault s.global.instrumentError, s.global.faultSet,
        byteOf s.notices.length]
    ++ s.notices.flatMap (noticeEntry s)

def readNotices : Block := fun _ body s =>
  match body with
  | [] => .done (noticeLayout s) s
  | _ => .refused 1 [.badLength]

/-! ## The source a request names (R156) -/

/-- R186: the indications of a source class; none where the class code is undefined. -/
def classMembers (cls : Byte) : Option Byte :=
  if cls = 0 then some 0x1F
  else if cls = 1 then some 0x01
  else if cls = 2 ∨ cls = 3 then some 0x07
  else if cls = 4 then some 0x3F
  else none

/-- R156: the source of a defined class and a number, or the cause of group 2. -/
def sourceOf (cls number : Byte) : Except Cause Source :=
  if cls = 0 then (if number = 0 then .ok .global else .error .noSuchUnit)
  else if cls = 1 then (match numberOf 4 number with | some n => .ok (.slot n) | none => .error .noSuchUnit)
  else if cls = 2 then (match numberOf 2 number with | some n => .ok (.lane n) | none => .error .noSuchUnit)
  else if cls = 3 then (match numberOf 6 number with | some n => .ok (.channel n) | none => .error .noSuchUnit)
  else (match numberOf 48 number with | some h => .ok (.record h) | none => .error .noSuchRecord)

/-- R156: group 1 and the source. -/
def onSource (cls number set : Byte) (go : Source → Verdict) : Verdict :=
  match classMembers cls with
  | none => .refused 1 [.badValue]
  | some members =>
    refuseIf 1 [(.badValue, set &&& ~~~members ≠ 0)]
      (match sourceOf cls number with
       | .error c => .refused 2 [c]
       | .ok src => go src)

/-! ## ACK_INDICATIONS (R157) -/

/-- R153, R157: the accumulating details of the indications that were pending and are acknowledged are emptied. -/
def Global.acknowledge (g : Global) (set : Byte) : Global :=
  { g with
    pending := g.pending &&& ~~~set
    resetReasons := if g.pending &&& set &&& indResetOccurred = 0 then g.resetReasons else 0
    expired := if g.pending &&& set &&& indStagingExpired = 0 then g.expired else 0
    faultSet := if g.pending &&& set &&& indClientFault = 0 then g.faultSet else 0 }

/-- R157: the state after an acknowledgement. -/
def acknowledge (src : Source) (set : Byte) (s : State) : State :=
  match src with
  | .global => { s with global := s.global.acknowledge set }
  | .slot n => s.setPending (.slot n) (s.pendingOf (.slot n) &&& ~~~set)
  | .lane n => s.setPending (.lane n) (s.pendingOf (.lane n) &&& ~~~set)
  | .channel n => s.setPending (.channel n) (s.pendingOf (.channel n) &&& ~~~set)
  | .record h => s.setPending (.record h) (s.pendingOf (.record h) &&& ~~~set)

/-- R8, R156: change access to a LIVE record, an admin client for a FREE or RETIRING slot, any client otherwise. -/
def ackAccess (q : Caller) (s : State) : Source → List (Cause × Bool)
  | .record h =>
    match s.record? h with
    | some r => [(.notPermitted, !q.canChange r)]
    | none => [(.notAdmin, !q.admin)]
  | .global => []
  | .slot _ => []
  | .lane _ => []
  | .channel _ => []

/-- The four-byte body: operation, source class, source number, indication set. -/
def ackIndications : Block := fun q body s =>
  match body with
  | [op, cls, number, set] =>
    onSource cls number set fun src =>
      refuseIf 3 (ackAccess q s src) (.done [op, (acknowledge src set s).pendingOf src] (acknowledge src set s))
  | _ => .refused 1 [.badLength]

/-! ## SET_ENABLES (R159) -/

/-- R156: a record source must be LIVE and needs change access; the other classes need an admin client. -/
def enableOn (q : Caller) (s : State) (src : Source) (go : Verdict) : Verdict :=
  match src with
  | .record h =>
    match s.record? h with
    | some r => refuseIf 3 [(.notPermitted, !q.canChange r)] go
    | none => .refused 2 [.noSuchRecord]
  | .global => refuseIf 3 [(.notAdmin, !q.admin)] go
  | .slot _ => refuseIf 3 [(.notAdmin, !q.admin)] go
  | .lane _ => refuseIf 3 [(.notAdmin, !q.admin)] go
  | .channel _ => refuseIf 3 [(.notAdmin, !q.admin)] go

def setEnables : Block := fun q body s =>
  match body with
  | [op, cls, number, set] =>
    onSource cls number set fun src => enableOn q s src (.done [op, set] (s.setEnabled src set))
  | _ => .refused 1 [.badLength]

/-! ## The meanings -/

def execReadNotices (client : Byte) (body : List Byte) (s : State) : Host.Outcome State Fault Refusal :=
  .next (takeRequest 0x80 readNotices client body s)

/-- Kind 0x81 with operation ACK_INDICATIONS, 0x01. -/
def execAckIndications (client : Byte) (rest : List Byte) (s : State) : Host.Outcome State Fault Refusal :=
  .next (takeRequest 0x81 ackIndications client (0x01 :: rest) s)

/-- Kind 0x81 with operation SET_ENABLES, 0x02. -/
def execSetEnables (client : Byte) (rest : List Byte) (s : State) : Host.Outcome State Fault Refusal :=
  .next (takeRequest 0x81 setEnables client (0x02 :: rest) s)

end Sys2Proof.Machine
end

