-- ==== Sys2Proof/Machine/Evaluate.lean ====
section
/-! DEFINITION. The evaluation of a complete strip, stage by stage (06_verification_and_match_state.md, R121 to
R132). -/
namespace Sys2Proof.Machine

/-- R127: a change of match state within an evaluation; no change when the state is the same. -/
def Record.setMatch (r : Record) (m : MatchState) : Record :=
  if m = r.state then r
  else
    { r with
      state := m
      passStreak := 0
      failStreak := if m = .suspect then 1 else 0
      windowStrips := if m.inMatch = r.state.inMatch then r.windowStrips else 0
      windowFailing := if m.inMatch = r.state.inMatch then r.windowFailing else 0 }

/-- R122: a non-void patch with its deviation and its lightness error. -/
structure Judged where
  patch : Nat
  deviation : Nat
  errorL : Int
  deriving DecidableEq, Repr

/-- R122: the target of a patch. -/
def patchTarget (r : Record) (ns : Nodes) (patch : Triple) : Triple :=
  match r.data with
  | .paper f => (paperTransform ns f.trim patch).1
  | .display => patch

/-- R122: the judgement of patch i; none for a VOID reading. -/
def judge (r : Record) (ns : Nodes) (i : Nat) (rd : Reading) (patch : Triple) : Option Judged :=
  if rd.good then
    some ⟨i, deviation rd.lab (patchTarget r ns patch), rd.lab.x - (patchTarget r ns patch).x⟩
  else none

/-- R122: stage 1 over the readings and the patches, in index order; a reading's index is its position (R93). -/
def judgePatches (r : Record) (ns : Nodes) (readings : List Reading) : List Judged :=
  (readings.zip r.patches).zipIdx.filterMap fun ((rd, patch), i) => judge r ns i rd patch

/-- R122: F, the number of failing patches. -/
def failingPatches (r : Record) (js : List Judged) : Nat := js.countP fun j => r.settings.patchLimit < j.deviation

/-- R122: the strip passes. -/
def stripPasses (r : Record) (js : List Judged) : Bool := failingPatches r js ≤ r.settings.tolerance

/-- R123, R102: a counter one higher, saturating at 65535. -/
def bump (n : Nat) : Nat := min (n + 1) Config.counterMax

/-- R123: stage 2. -/
def stageCounters (pass : Bool) (r : Record) : Record :=
  if pass then { r with passed := bump r.passed } else { r with failed := bump r.failed }

/-- R124: the larger deviation; of two equal ones the first, which has the lower patch index. -/
def keepLarger (best : Option Hold) (j : Judged) : Option Hold :=
  match best with
  | none => some ⟨j.deviation, j.patch⟩
  | some h => if h.deviation < j.deviation then some ⟨j.deviation, j.patch⟩ else some h

/-- R124: the largest deviation with the lowest patch index at which it occurs. -/
def worst (js : List Judged) : Option Hold := js.foldl keepLarger none

/-- R124: stage 3, with its indication. -/
def stageHold (pass : Bool) (js : List Judged) (r : Record) : Record × Byte :=
  if pass || r.hold.isSome then (r, 0) else ({ r with hold := worst js }, indHoldCaptured)

/-- R125: the window judged at its eighth strip. -/
def judgeWindow (total : Nat) (r : Record) : Record × Byte :=
  if r.settings.excessive ≤ total then
    ((if r.settings.excessForcesLoss && !r.settings.pinned then
        { r.setMatch .lost with windowStrips := 0, windowFailing := 0 }
      else { r with windowStrips := 0, windowFailing := 0 }), indExcessive)
  else ({ r with windowStrips := 0, windowFailing := 0 }, 0)

/-- R125: stage 4, skipped for UNVERIFIED and LOST. -/
def stageWindow (failures : Nat) (r : Record) : Record × Byte :=
  if !r.state.inMatch then (r, 0)
  else if Config.windowLength ≤ r.windowStrips + 1 then judgeWindow (r.windowFailing + failures) r
  else ({ r with windowStrips := r.windowStrips + 1, windowFailing := r.windowFailing + failures }, 0)

/-- R126: a passing strip counted towards MATCHED. -/
def climb (r : Record) : Record :=
  if r.settings.acquire ≤ r.passStreak + 1 then r.setMatch .matched else { r with passStreak := r.passStreak + 1 }

/-- R126: stage 5. -/
def stageMatch (pass : Bool) (r : Record) : Record :=
  match r.state, pass with
  | .unverified, true => climb r
  | .unverified, false => { r with passStreak := 0 }
  | .matched, true => r
  | .matched, false => if r.settings.pinned then r else r.setMatch .suspect
  | .suspect, true => r.setMatch .matched
  | .suspect, false =>
    if r.settings.loss ≤ r.failStreak + 1 then r.setMatch .lost else { r with failStreak := r.failStreak + 1 }
  | .lost, true => if r.settings.autoReacquire then climb r else r
  | .lost, false => { r with passStreak := 0 }

/-- R129: two white readings agree within 50 in each component. -/
def whitesAgree (s t : Triple) : Bool :=
  (s.x - t.x).natAbs ≤ Config.whiteAgreement && (s.y - t.y).natAbs ≤ Config.whiteAgreement
    && (s.z - t.z).natAbs ≤ Config.whiteAgreement

/-- R130: the wrong-media test on a measured white just confirmed. -/
def wrongMedia (f : PaperFields) (white : Triple) : Bool :=
  match f.nominalWhite with
  | none => false
  | some n => f.whiteLimit < deviation white n

/-- R129: the white reading confirms the measured white. -/
def confirmsWhite (f : PaperFields) (w : Reading) : Bool :=
  match f.whiteCandidate with
  | none => false
  | some c => w.good && whitesAgree w.lab c

/-- R129, R130: stage 6 on the white reading `w` of a paper record. -/
def whiteStep (f : PaperFields) (w : Reading) (r : Record) : Record × Byte :=
  let candidate := if w.good then some w.lab else none
  if confirmsWhite f w then
    let r1 := { r with data := .paper { f with measuredWhite := some w.lab, whiteCandidate := candidate } }
    if wrongMedia f w.lab then
      ((if r.settings.pinned then r1 else r1.setMatch .lost), indWhiteUpdated ||| indWrongMedia)
    else (r1, indWhiteUpdated)
  else ({ r with data := .paper { f with whiteCandidate := candidate } }, 0)

/-- R129: stage 6 runs for a PAPER record whose white patch index is present. -/
def stageWhite (readings : List Reading) (r : Record) : Record × Byte :=
  match r.data with
  | .display => (r, 0)
  | .paper f =>
    match f.whitePatch.bind fun w => readings[w]? with
    | none => (r, 0)
    | some w => whiteStep f w r

/-- R131: the mean lightness error, rounded. -/
def meanError (js : List Judged) : Int := roundDiv ((js.map (·.errorL)).sum) js.length

/-- R131: stage 7. -/
def stageTrim (pass : Bool) (js : List Judged) (r : Record) : Record :=
  match r.data with
  | .display => r
  | .paper f =>
    if f.trimFollow && pass && r.state = .matched then
      { r with data := .paper { f with
          trim := { f.trim with offL := clampTo (-500) 500 (f.trim.offL + roundDiv (meanError js) 4) } } }
    else r

/-- R121, R132: the seven stages in order, and the indications of the evaluation. -/
def evaluation (ns : Nodes) (readings : List Reading) (r : Record) : Record × Byte :=
  let js := judgePatches r ns readings
  let pass := stripPasses r js
  let (r3, m3) := stageHold pass js (stageCounters pass r)
  let (r4, m4) := stageWindow (failingPatches r js) r3
  let (r6, m6) := stageWhite readings (stageMatch pass r4)
  let r7 := stageTrim pass js r6
  (r7, m3 ||| m4 ||| m6 ||| (if r7.state = r.state then 0 else indMatchChanged))

/-- The grid an evaluation reads: the record's current bank (R121). -/
def State.gridOf (s : State) (r : Record) : Nodes :=
  match r.bank with
  | some b => s.banks[b]
  | none => []

/-- R132: the record takes the evaluation's outcome as one whole, and the slots re-evaluate their conditions. -/
def evaluateStrip (h : Handle) (r : Record) (readings : List Reading) (s : State) : State :=
  s.settleLines (s.setRecord h
    ⟨.live (evaluation (s.gridOf r) readings r).1,
     s.records[h].pending ||| (evaluation (s.gridOf r) readings r).2, s.records[h].enabled⟩)

end Sys2Proof.Machine
end

