-- ==== Sys2Proof/Machine/Receiver.lean ====
section
/-! DEFINITION. The Instrument Receiver and the Strip Assemblers (05_instrument_link_and_strip_assembly.md). -/
namespace Sys2Proof.Machine

/-! ## SET_HEAD_CORRECTION (R95, R96), READ_CHANNEL (R108) -/

/-- R95: each value to the nearer limit of its own range. -/
def clampCorrection (c : Correction) : Correction :=
  ⟨clampTo (-4096) 4095 c.gainL, clampTo (-1000) 1000 c.offL, clampTo (-4096) 4095 c.gainA,
   clampTo (-1000) 1000 c.offA, clampTo (-4096) 4095 c.gainB, clampTo (-1000) 1000 c.offB⟩

/-- R96: the correction is replaced, and an open strip is abandoned with CHANGED. -/
def storeCorrection (c : ChannelId) (x : Correction) (s : State) : State :=
  s.setChannel c ({ s.channels[c] with correction := x }.abandonOpen .changed)

def setHeadCorrection : Block := fun q body s =>
  match body with
  | [cb, g1, g0, o1, o0, h1, h0, p1, p0, i1, i0, r1, r0] =>
    let x : Correction := ⟨s16 g1 g0, s16 o1 o0, s16 h1 h0, s16 p1 p0, s16 i1 i0, s16 r1 r0⟩
    refuseIf 1 [(.badValue, clampCorrection x ≠ x && q.strict)]
      (onUnit 6 q cb fun c =>
        accept (clampCorrection x ≠ x) (encCorrection (clampCorrection x)) (storeCorrection c (clampCorrection x) s))
  | _ => .refused 1 [.badLength]

/-- R188: seven bytes a reading. -/
def encReading (r : Reading) : List Byte := encTriple r.lab ++ [encBool r.good]

/-- R188: strip state, declared count, readings held, time left. DESIGN CHOICE (log 26, unsafe): R108 gives the declared
count and the time left for OPEN alone, and on an IDLE channel both fields are sent as 0. -/
def stripHead : Option Strip → List Byte
  | none => [0, 0, 0] ++ enc16 0
  | some st => [1, byteOf st.count, byteOf st.readings.length] ++ enc16 st.timer

/-- The readings of an open strip, none of an IDLE one. -/
def stripReadings : Option Strip → List Reading
  | none => []
  | some st => st.readings

/-- R188: the channel layout, 22 + 7n bytes. -/
def channelLayout (s : State) (c : ChannelId) : List Byte :=
  [encBool (4 ≤ c.val), encNumber (s.attached c)] ++ encCorrection s.channels[c].correction
    ++ stripHead s.channels[c].strip
    ++ [encAbandon s.channels[c].lastAbandon, s.channels[c].pending, s.channels[c].enabled]
    ++ (stripReadings s.channels[c].strip).flatMap encReading

def readChannel : Block := fun _ body s => readUnit 6 (channelLayout s) s body

/-! ## Opening (R97, R98) -/

/-- R98: the first condition that refuses an opening. -/
def openRefusal (s : State) (c : ChannelId) (count : Nat) : Option AbandonCause :=
  match (s.attached c).bind s.record? with
  | none => some .noRecord
  | some r =>
    if r.bank.isNone || r.patches.isEmpty then some .notReady
    else if count ≠ r.patches.length then some .mismatch
    else
      match laneOfChannel c with
      | none => none
      | some l => if s.lanes[l].signal = .noSignal then some .noSignal else none

/-- R97, R98: an open strip is abandoned with OVERRUN first; then the opening is refused or the strip opens. -/
def openStrip (c : ChannelId) (count : Nat) (s : State) : State :=
  match openRefusal s c count with
  | some cause => s.setChannel c ((s.channels[c].abandonOpen .overrun).abandon cause)
  | none =>
    s.setChannel c { (s.channels[c].abandonOpen .overrun) with strip := some ⟨count, [], Config.inactivityMs⟩ }

/-! ## Readings (R99, R100) -/

/-- R99: the reading is appended, or the strip is abandoned with SEQUENCE; R100: STRAY on an IDLE channel. -/
def addReading (ch : Channel) (index : Nat) (lab : Triple) (good : Bool) : Channel :=
  match ch.strip with
  | none => ch.abandon .stray
  | some st =>
    if st.readings.length < st.count ∧ index = st.readings.length then
      { ch with strip := some ⟨st.count, st.readings ++ [⟨index, headCorrect ch.correction lab, good⟩],
          Config.inactivityMs⟩ }
    else ch.abandon .sequence

/-! ## Closing (R101 to R103) -/

/-- R102: the VOID readings number more than a quarter of the declared count. -/
def Strip.isVoid (st : Strip) : Bool := st.count < 4 * st.readings.countP fun r => !r.good

/-- R102: the strips-void counter of the attached record. -/
def countVoid (h : Handle) (r : Record) (s : State) : State := s.putRecord h { r with voided := bump r.voided }

/-- The channel after a complete strip: IDLE, with an indication and the last abandon cause as it stood. -/
def Channel.closed (ch : Channel) (ind : Byte) : Channel := { ch with strip := none, pending := ch.pending ||| ind }

/-- The LIVE record a channel is attached to. -/
def State.attachedRecord (s : State) (c : ChannelId) : Option (Handle × Record) :=
  (s.attached c).bind fun h => (s.record? h).map fun r => (h, r)

/-- R102, R103: the hand-over of a complete strip, one event with its evaluation. -/
def handOver (c : ChannelId) (st : Strip) (s : State) : State :=
  if st.isVoid then
    match s.attachedRecord c with
    | none => s.setChannel c (s.channels[c].closed indStripVoid)
    | some (h, r) => countVoid h r (s.setChannel c (s.channels[c].closed indStripVoid))
  else
    match s.attachedRecord c with
    | none => s.setChannel c (s.channels[c].closed indStripEvaluated)
    | some (h, r) => evaluateStrip h r st.readings (s.setChannel c (s.channels[c].closed indStripEvaluated))

/-- R101: SHORT, or complete; R100: STRAY on an IDLE channel. -/
def closeStrip (c : ChannelId) (s : State) : State :=
  match s.channels[c].strip with
  | none => s.setChannel c (s.channels[c].abandon .stray)
  | some st =>
    if st.readings.length < st.count then s.setChannel c (s.channels[c].abandon .short) else handOver c st s

/-! ## Messages and bytes (R89 to R92, R189) -/

/-- R89: the message is complete, and the receiver returns to HUNTING. -/
def State.hunt (s : State) : State := { s with receiver := .hunting }

/-- R91: a discard returns the receiver to HUNTING and latches INSTRUMENT_FRAME_ERROR with its cause. -/
def State.discardMessage (s : State) (cause : InstrumentFault) : State :=
  { s.hunt with global := { s.global with
      pending := s.global.pending ||| indInstrumentFrameError, instrumentError := some cause } }

def takeStripOpen (c : ChannelId) (count : Byte) (s : State) : State := openStrip c count.toNat s.hunt

/-- R92: L unsigned, a and b signed; quality 0x01 is GOOD, every other value VOID. -/
def takeReading (c : ChannelId) (index : Byte) (L a b : BitVec 16) (quality : Byte) (s : State) : State :=
  s.hunt.setChannel c (addReading s.channels[c] index.toNat ⟨L.toNat, a.toInt, b.toInt⟩ (quality = 1))

def takeStripClose (c : ChannelId) (s : State) : State := closeStrip c s.hunt

/-- R189: the length of a message by its kind byte. -/
def messageLength (kind : Byte) : Option Nat :=
  if kind = 1 then some 5 else if kind = 2 then some 12 else if kind = 3 then some 4 else none

/-- R90: a complete message with a correct check byte is taken by the channel it names. -/
def takeMessage (message : List Byte) (s : State) : State :=
  match message with
  | [_, cb, _, _] =>
    match numberOf 6 cb with
    | none => s.hunt
    | some c => takeStripClose c s
  | [_, cb, _, count, _] =>
    match numberOf 6 cb with
    | none => s.hunt
    | some c => takeStripOpen c count s
  | [_, cb, _, index, l1, l0, a1, a0, b1, b0, quality, _] =>
    match numberOf 6 cb with
    | none => s.hunt
    | some c => takeReading c index (l1 ++ l0) (a1 ++ a0) (b1 ++ b0) quality s
  | _ => s.hunt

/-- R89 to R91: the message so far, the byte just received included. -/
def collect (message : List Byte) (s : State) : State :=
  match message with
  | [_, channel] =>
    if 5 < channel.toNat then s.discardMessage .channel
    else { s with receiver := .receiving message Config.gapMs }
  | _ :: _ :: kind :: _ =>
    match messageLength kind with
    | none => s.discardMessage .kind
    | some n =>
      if message.length < n then { s with receiver := .receiving message Config.gapMs }
      else if byteSum message = 0 then takeMessage message s
      else s.discardMessage .check
  | _ => { s with receiver := .receiving message Config.gapMs }

/-- R89: one byte on IRX. -/
def receiveByte (b : Byte) (s : State) : State :=
  match s.receiver with
  | .hunting => if b = 0xD2 then { s with receiver := .receiving [b] Config.gapMs } else s
  | .receiving bytes _ => collect (bytes ++ [b]) s

/-- R91: the gap timer runs out; no event in HUNTING, where it is stopped (log 5). -/
def gapExpiry (s : State) : State :=
  s.event
    (match s.receiver with
     | .hunting => s
     | .receiving _ _ => s.discardMessage .gap)

/-- R104: the inactivity timer of an open strip runs out; no event on an IDLE channel (log 5). -/
def inactivityExpiry (c : ChannelId) (s : State) : State := s.event (s.abandonStrip c .stalled)

/-- R91: the cause of a discard. -/
def causeOfFault : MessageFault → InstrumentFault
  | .check => .check
  | .kind => .kind
  | .channel => .channel

/-! ## The meanings -/

def execSetHeadCorrection (client : Byte) (body : List Byte) (s : State) : Host.Outcome State Fault Refusal :=
  .next (takeRequest 0x50 setHeadCorrection client body s)

/-- Kind 0x43 with unit class channel, 0x02. -/
def execReadChannel (client : Byte) (rest : List Byte) (s : State) : Host.Outcome State Fault Refusal :=
  .next (takeRequest 0x43 readChannel client (0x02 :: rest) s)

def execStripOpen (channel : ChannelId) (count : Byte) (s : State) : Host.Outcome State Fault Refusal :=
  .next (s.event (takeStripOpen channel count s))

def execReading (channel : ChannelId) (index : Byte) (L a b : BitVec 16) (quality : Byte) (s : State) :
    Host.Outcome State Fault Refusal :=
  .next (s.event (takeReading channel index L a b quality s))

def execStripClose (channel : ChannelId) (s : State) : Host.Outcome State Fault Refusal :=
  .next (s.event (takeStripClose channel s))

def execInactivityExpiry (channel : ChannelId) (s : State) : Host.Outcome State Fault Refusal :=
  .next (inactivityExpiry channel s)

def execMessageDiscard (cause : MessageFault) (s : State) : Host.Outcome State Fault Refusal :=
  .next (s.event (s.discardMessage (causeOfFault cause)))

def execGapTimerExpiry (s : State) : Host.Outcome State Fault Refusal := .next (gapExpiry s)

def execReceivedByte (byte : Byte) (s : State) : Host.Outcome State Fault Refusal :=
  .next (s.event (receiveByte byte s))

end Sys2Proof.Machine
end

