-- ==== Sys2Proof/Machine/Slots.lean ====
section
/-! DEFINITION. Printer slots and proof-valid lines (07_printer_slots_and_proof_valid_lines.md). -/
namespace Sys2Proof.Machine

/-! ## SET_SLOT_PAPER (R144, R145) -/

/-- R144: the record is the active paper of another slot. -/
def State.paperElsewhere (s : State) (n : SlotId) (h : Handle) : Bool :=
  (List.finRange 4).any fun k => k ≠ n && s.slots[k].paper = some h

/-- R145: the active paper, the head channel's strip, the condition and the line machine. -/
def assignPaper (n : SlotId) (paper : Option Handle) (s : State) : State :=
  s.settleLines ((s.setSlot n { s.slots[n] with paper := paper }).abandonStrip (headOf n) .changed)

/-- R188: the active paper and the line state after the event. -/
def assigned (n : SlotId) (paper : Option Handle) (s : State) : Verdict :=
  .done [encNumber paper, encLine (assignPaper n paper s).slots[n].line] (assignPaper n paper s)

def setSlotPaper : Block := fun q body s =>
  match body with
  | [nb] => onUnit 4 q nb fun n => assigned n none s
  | [nb, hb] =>
    refuseIf 2 [(.noSuchRecord, missing (s.target hb)), (.wrongKind, notKind .paper (s.target hb)),
        (.noSuchUnit, (numberOf 4 nb).isNone)]
      (onUnit 4 q nb fun n =>
        match s.target hb with
        | none => .refused 2 [.noSuchRecord]
        | some (h, _) => refuseIf 4 [(.inUse, s.paperElsewhere n h)] (assigned n (some h) s))
  | _ => .refused 1 [.badLength]

/-! ## SET_SLOT_LINE (R146) -/

/-- R146: a delay to its limit. -/
def clampDelay (t : Nat) : Nat := min t Config.delayMax

/-- R146: the slot after the request, `condition` the line condition. -/
def PrinterSlot.setLine (p : PrinterSlot) (o : Override) (t1 t2 : Nat) (condition : Bool) : PrinterSlot :=
  p.noteOutput
    (match o with
     | .forceOn => { p with override := .forceOn, t1 := t1, t2 := t2, line := .off }
     | .forceOff => { p with override := .forceOff, t1 := t1, t2 := t2, line := .off }
     | .auto =>
       if p.override = .auto then { p with t1 := t1, t2 := t2 }
       else
         { p with override := .auto, t1 := t1, t2 := t2, line := if condition then LineState.off.rise t1 else .off })

/-- R188: override, T1, T2, line state, line output. -/
def encSlotLine (p : PrinterSlot) : List Byte :=
  [encOverride p.override] ++ enc16 p.t1 ++ enc16 p.t2 ++ [encLine p.line, encBool p.output]

def setSlotLine : Block := fun q body s =>
  match body with
  | [nb, ob, x1, x0, y1, y0] =>
    match overrideOf ob with
    | none => .refused 1 [.badValue]
    | some o =>
      let clamped : Bool := clampDelay (u16 x1 x0) ≠ u16 x1 x0 || clampDelay (u16 y1 y0) ≠ u16 y1 y0
      refuseIf 1 [(.badValue, clamped && q.strict)]
        (onUnit 4 q nb fun n =>
          let p := s.slots[n].setLine o (clampDelay (u16 x1 x0)) (clampDelay (u16 y1 y0)) (s.lineCondition n)
          accept clamped (encSlotLine p) (s.setSlot n p))
  | _ => .refused 1 [.badLength]

/-! ## READ_SLOT (R148) -/

/-- R148: the time left in units of 10 ms, rounded up, in ARMING and RELEASING. DESIGN CHOICE (log 25, unsafe): R148
gives no time left in OFF and ON, where no timer runs, and the field is sent as 0. -/
def LineState.timeLeft : LineState → Nat
  | .off => 0
  | .arming t => (t + (Config.delayUnitMs - 1)) / Config.delayUnitMs
  | .on => 0
  | .releasing t => (t + (Config.delayUnitMs - 1)) / Config.delayUnitMs

/-- R188: the slot layout, 14 bytes. -/
def slotLayout (s : State) (n : SlotId) : List Byte :=
  [encNumber s.slots[n].paper, encBool (s.lineCondition n), encOverride s.slots[n].override]
    ++ enc16 s.slots[n].t1 ++ enc16 s.slots[n].t2
    ++ [encLine s.slots[n].line, encBool (s.slots[n].override ≠ .auto)]
    ++ enc16 s.slots[n].line.timeLeft
    ++ [encBool s.slots[n].output, s.slots[n].pending, s.slots[n].enabled]

def readSlot : Block := fun _ body s => readUnit 4 (slotLayout s) s body

/-! ## LINE_TIMER_EXPIRY (R141, R142) -/

/-- R141: the timer column of the machine; no event where no timer runs or the line is frozen (log 5). -/
def PrinterSlot.expire (p : PrinterSlot) : PrinterSlot :=
  match p.override with
  | .forceOn => p
  | .forceOff => p
  | .auto =>
    match p.line with
    | .off => p
    | .on => p
    | .arming _ => p.noteOutput { p with line := .on }
    | .releasing _ => p.noteOutput { p with line := .off }

def lineTimerExpiry (n : SlotId) (s : State) : State := s.event (s.setSlot n s.slots[n].expire)

/-! ## The meanings -/

def execSetSlotPaper (client : Byte) (body : List Byte) (s : State) : Host.Outcome State Fault Refusal :=
  .next (takeRequest 0x70 setSlotPaper client body s)

def execSetSlotLine (client : Byte) (body : List Byte) (s : State) : Host.Outcome State Fault Refusal :=
  .next (takeRequest 0x71 setSlotLine client body s)

/-- Kind 0x43 with unit class slot, 0x01. -/
def execReadSlot (client : Byte) (rest : List Byte) (s : State) : Host.Outcome State Fault Refusal :=
  .next (takeRequest 0x43 readSlot client (0x01 :: rest) s)

def execLineTimerExpiry (slot : SlotId) (s : State) : Host.Outcome State Fault Refusal :=
  .next (lineTimerExpiry slot s)

end Sys2Proof.Machine
end

