-- ==== Sys2Proof/Machine/Translate.lean ====
section
/-! DEFINITION. TRANSLATE and SET_TRIM (03_colour_arithmetic_and_translation.md). -/
namespace Sys2Proof.Machine

/-! ## TRANSLATE (R65 to R67) -/

/-- R66, R179: an input outside its range refuses a strict client, and is clamped for a lenient one; `go` takes the
input used and the input flags. -/
def withInput (q : Caller) (clamp : Triple → Triple) (t : Triple) (go : Triple → Byte → Verdict) : Verdict :=
  refuseIf 1 [(.badValue, clamp t ≠ t && q.strict)] (go (clamp t) (clampFlags t (clamp t)))

/-- R65: FORWARD. -/
def translateForward (q : Caller) (hb : Byte) (input : Triple) (s : State) : Verdict :=
  withInput q clampDevice input fun t flags =>
    refuseIf 2 [(.noSuchRecord, missing (s.target hb)), (.wrongKind, notKind .paper (s.target hb))]
      (onRecord s hb q.canLookup fun _ r =>
        match r.bank with
        | none => .refused 4 [.noGrid]
        | some b =>
          accept (clampDevice input ≠ input)
            (flags :: (encTriple (paperTransform s.banks[b] r.trim t).1 ++ [(paperTransform s.banks[b] r.trim t).2])) s)

/-- R65: RENDER. -/
def translateRender (q : Caller) (hb : Byte) (input : Triple) (s : State) : Verdict :=
  withInput q clampLab input fun t flags =>
    refuseIf 2 [(.noSuchRecord, missing (s.target hb)), (.wrongKind, notKind .display (s.target hb))]
      (onRecord s hb q.canLookup fun _ r =>
        match r.bank with
        | none => .refused 4 [.noGrid]
        | some b => accept (clampLab input ≠ input) (flags :: encTriple (renderTransform s.banks[b] t)) s)

/-- R67: the result of PROOF. -/
def proofResult (flags : Byte) (p : Triple × Byte × Triple) : List Byte :=
  flags :: (encTriple p.1 ++ [p.2.1] ++ encTriple p.2.2)

/-- R65: PROOF; the causes of both handles are reported together (R9), access is needed to both (R8), and NO_GRID is
reported once. -/
def translateProof (q : Caller) (pb db : Byte) (input : Triple) (s : State) : Verdict :=
  withInput q clampDevice input fun t flags =>
    refuseIf 2 [(.noSuchRecord, missing (s.target pb) || missing (s.target db)),
        (.wrongKind, notKind .paper (s.target pb) || notKind .display (s.target db))]
      (match s.target pb, s.target db with
       | some (_, p), some (_, d) =>
         refuseIf 3 [(.notPermitted, !(q.canLookup p && q.canLookup d))]
           (match p.bank, d.bank with
            | some bp, some bd =>
              accept (clampDevice input ≠ input)
                (proofResult flags (proofTransform s.banks[bp] p.trim s.banks[bd] t)) s
            | _, _ => .refused 4 [.noGrid])
       | _, _ => .refused 2 [.noSuchRecord])

/-- R65, R188: the mode is read before the length is judged (R186). -/
def translate : Block := fun q body s =>
  match body with
  | [] => .refused 1 [.badLength]
  | mode :: rest =>
    if mode = 1 then
      match rest with
      | [hb, a, b, c, d, e, f] => translateForward q hb (deviceOf a b c d e f) s
      | _ => .refused 1 [.badLength]
    else if mode = 2 then
      match rest with
      | [hb, a, b, c, d, e, f] => translateRender q hb (labOf a b c d e f) s
      | _ => .refused 1 [.badLength]
    else if mode = 3 then
      match rest with
      | [pb, db, a, b, c, d, e, f] => translateProof q pb db (deviceOf a b c d e f) s
      | _ => .refused 1 [.badLength]
    else .refused 1 [.badValue]

/-! ## SET_TRIM (R61, R62) -/

/-- R58: each value to the nearer limit of its own range. -/
def clampTrim (t : Trim) : Trim :=
  ⟨clampTo (-4096) 4095 t.gainL, clampTo (-500) 500 t.offL, clampTo (-500) 500 t.offA, clampTo (-500) 500 t.offB⟩

/-- R62: the four fields are replaced, and an open strip on the head channel attached to the record is abandoned. -/
def storeTrim (h : Handle) (r : Record) (t : Trim) (s : State) : State :=
  (s.putRecord h (r.onPaper fun p => { p with trim := t })).abandonAttached h

def setTrim : Block := fun q body s =>
  match body with
  | [hb, g1, g0, l1, l0, a1, a0, b1, b0] =>
    let t : Trim := ⟨s16 g1 g0, s16 l1 l0, s16 a1 a0, s16 b1 b0⟩
    refuseIf 1 [(.badValue, clampTrim t ≠ t && q.strict)]
      (refuseIf 2 [(.noSuchRecord, missing (s.target hb)), (.wrongKind, notKind .paper (s.target hb))]
        (onRecord s hb q.canChange fun h r =>
          accept (clampTrim t ≠ t) (encTrim (clampTrim t)) (storeTrim h r (clampTrim t) s)))
  | _ => .refused 1 [.badLength]

/-! ## The meanings -/

def execTranslate (client : Byte) (body : List Byte) (s : State) : Host.Outcome State Fault Refusal :=
  .next (takeRequest 0x30 translate client body s)

def execSetTrim (client : Byte) (body : List Byte) (s : State) : Host.Outcome State Fault Refusal :=
  .next (takeRequest 0x31 setTrim client body s)

end Sys2Proof.Machine
end

