-- ==== Sys2Proof/Machine/Verification.lean ====
section
/-! DEFINITION. The requests of the Verification Unit (06_verification_and_match_state.md). -/
namespace Sys2Proof.Machine

/-! ## SET_PATCHES (R115, R116) -/

/-- R113: a PAPER patch is a device triple, a DISPLAY patch a Lab triple. -/
def patchForm : Kind → Byte → Byte → Byte → Byte → Byte → Byte → Triple
  | .paper => deviceOf
  | .display => labOf

def patchInRange : Kind → Triple → Bool
  | .paper => deviceInRange
  | .display => labInRange

/-- The white patch index a body of n patches carries, after the 6n bytes of the triples. -/
def whiteIndexOf (n : Nat) (rest : List Byte) : Option Nat := (rest[6 * n]?).map (·.toNat)

/-- R115: the white index is present and not below the count. -/
def whiteIndexBad (n : Nat) (w : Option Nat) : Bool :=
  match w with
  | none => false
  | some k => n ≤ k

/-- R116: the record after SET_PATCHES. -/
def Record.withPatches (r : Record) (ps : List Triple) (white : Option Nat) : Record :=
  { (r.unverify.onPaper fun f => { f with whitePatch := white, whiteCandidate := none, measuredWhite := none })
    with patches := ps }

/-- R116: as one event. -/
def storePatches (h : Handle) (r : Record) (ps : List Triple) (white : Option Nat) (s : State) : State :=
  s.settleLines ((s.setRecord h
    ⟨.live (r.withPatches ps white), s.records[h].pending ||| r.unverifyMask, s.records[h].enabled⟩).abandonAttached h)

/-- R115: the checks that need the record, with the count n and the bytes after it. -/
def patchesOn (q : Caller) (hb : Byte) (n : Nat) (rest : List Byte) (s : State) : Verdict :=
  match s.target hb with
  | none => refuseIf 1 [(.badValue, whiteIndexBad n (whiteIndexOf n rest))] (.refused 2 [.noSuchRecord])
  | some (h, r) =>
    let ps := triplesOf (patchForm r.kind) (rest.take (6 * n))
    refuseIf 1 [(.badValue, whiteIndexBad n (whiteIndexOf n rest) || !ps.all (patchInRange r.kind))]
      (refuseIf 2 [(.wrongKind, r.kind = .display && (whiteIndexOf n rest).isSome)]
        (refuseIf 3 [(.notPermitted, !q.canChange r)]
          (.done [byteOf n, encMatchState .unverified] (storePatches h r ps (whiteIndexOf n rest) s))))

/-- R186: a count above 32 is BAD_VALUE at step 2, with no BAD_LENGTH (log 18). -/
def setPatches : Block := fun q body s =>
  match body with
  | hb :: n :: rest =>
    if 32 < n.toNat then .refused 1 [.badValue]
    else if rest.length ≠ 6 * n.toNat ∧ rest.length ≠ 6 * n.toNat + 1 then .refused 1 [.badLength]
    else patchesOn q hb n.toNat rest s
  | _ => .refused 1 [.badLength]

/-! ## SET_NOMINAL_WHITE (R117) -/

def storeNominal (h : Handle) (r : Record) (white : Option Triple) (s : State) : State :=
  s.putRecord h (r.onPaper fun f => { f with nominalWhite := white, whiteCandidate := none, measuredWhite := none })

def nominalOn (q : Caller) (hb : Byte) (white : Option Triple) (s : State) : Verdict :=
  refuseIf 1 [(.badValue, !(white.map labInRange).getD true)]
    (refuseIf 2 [(.noSuchRecord, missing (s.target hb)), (.wrongKind, notKind .paper (s.target hb))]
      (onRecord s hb q.canChange fun h r => .done [] (storeNominal h r white s)))

def setNominalWhite : Block := fun q body s =>
  match body with
  | [hb] => nominalOn q hb none s
  | [hb, a, b, c, d, e, f] => nominalOn q hb (some (labOf a b c d e f)) s
  | _ => .refused 1 [.badLength]

/-! ## SET_MATCH_SETTINGS (R118 to R120) -/

/-- The eleven settings as carried. -/
structure CarriedSettings where
  settings : Settings
  whiteLimit : Nat
  trimFollow : Bool
  deriving DecidableEq, Repr

/-- R118: each numeric setting to the nearer limit of its range. -/
def clampSettings (s : Settings) : Settings :=
  { s with
    acquire := (clampTo 1 4 s.acquire).toNat
    loss := (clampTo 2 4 s.loss).toNat
    patchLimit := (clampTo 1 5000 s.patchLimit).toNat
    tolerance := (clampTo 0 8 s.tolerance).toNat
    excessive := (clampTo 1 255 s.excessive).toNat }

/-- R119: the white limit is tested for a LIVE PAPER record alone. -/
def clampCarried (kind : Option Kind) (c : CarriedSettings) : CarriedSettings :=
  { c with
    settings := clampSettings c.settings
    whiteLimit := if kind = some .paper then (clampTo 1 2000 c.whiteLimit).toNat else c.whiteLimit }

/-- R188: the body after the handle; none where an on/off code is undefined. -/
def carriedOf (acq loss auto pin pl1 pl0 tol exc force wl1 wl0 follow clear : Byte) : Option CarriedSettings :=
  match onOff auto, onOff pin, onOff force, onOff follow, onOff clear with
  | some auto, some pin, some force, some follow, some clear =>
    some ⟨⟨acq.toNat, loss.toNat, auto, pin, u16 pl1 pl0, tol.toNat, exc.toNat, force, clear⟩, u16 wl1 wl0, follow⟩
  | _, _, _, _, _ => none

/-- R120: the record after SET_MATCH_SETTINGS. -/
def Record.withSettings (r : Record) (c : CarriedSettings) : Record :=
  { (r.onPaper fun f => { f with whiteLimit := c.whiteLimit, trimFollow := c.trimFollow }) with
    settings := c.settings, passStreak := 0, failStreak := 0, windowStrips := 0, windowFailing := 0 }

def settingsOn (q : Caller) (hb : Byte) (c : CarriedSettings) (s : State) : Verdict :=
  let used := clampCarried ((s.target hb).map (·.2.kind)) c
  refuseIf 1 [(.badValue, used ≠ c && q.strict)]
    (refuseIf 2 [(.noSuchRecord, missing (s.target hb)),
        (.wrongKind, notKind .paper (s.target hb) && (c.whiteLimit ≠ 0 || c.trimFollow))]
      (onRecord s hb q.canChange fun h r =>
        accept (used ≠ c) (encSettings (r.withSettings used)) (s.putRecord h (r.withSettings used))))

def setMatchSettings : Block := fun q body s =>
  match body with
  | [hb, acq, loss, auto, pin, pl1, pl0, tol, exc, force, wl1, wl0, follow, clear] =>
    match carriedOf acq loss auto pin pl1 pl0 tol exc force wl1 wl0 follow clear with
    | none => .refused 1 [.badValue]
    | some c => settingsOn q hb c s
  | _ => .refused 1 [.badLength]

/-! ## REVERIFY (R134), CLEAR_HOLD (R135), READ_COUNTERS (R136) -/

/-- R134: as one event. -/
def reverifyRecord (h : Handle) (r : Record) (s : State) : State :=
  s.settleLines (s.setRecord h
    ⟨.live r.unverify, s.records[h].pending ||| r.unverifyMask, s.records[h].enabled⟩)

def reverify : Block := fun q body s =>
  match body with
  | [hb] => onRecord s hb q.canChange fun h r => .done [encMatchState r.state] (reverifyRecord h r s)
  | _ => .refused 1 [.badLength]

def clearHold : Block := fun q body s =>
  match body with
  | [hb] => onRecord s hb q.canChange fun h r => .done (encHold r.hold) (s.putRecord h { r with hold := none })
  | _ => .refused 1 [.badLength]

/-- R136, R8: lookup access with clear-on-read off, change access with it on. -/
def Caller.canCount (q : Caller) (r : Record) : Bool :=
  if r.settings.clearOnRead then q.canChange r else q.canLookup r

def readCounters : Block := fun q body s =>
  match body with
  | [hb] =>
    onRecord s hb q.canCount fun h r =>
      .done (enc16 r.passed ++ enc16 r.failed ++ enc16 r.voided)
        (if r.settings.clearOnRead then s.putRecord h { r with passed := 0, failed := 0, voided := 0 } else s)
  | _ => .refused 1 [.badLength]

/-! ## The meanings -/

def execSetPatches (client : Byte) (body : List Byte) (s : State) : Host.Outcome State Fault Refusal :=
  .next (takeRequest 0x60 setPatches client body s)

def execSetNominalWhite (client : Byte) (body : List Byte) (s : State) : Host.Outcome State Fault Refusal :=
  .next (takeRequest 0x61 setNominalWhite client body s)

def execSetMatchSettings (client : Byte) (body : List Byte) (s : State) : Host.Outcome State Fault Refusal :=
  .next (takeRequest 0x62 setMatchSettings client body s)

def execReverify (client : Byte) (body : List Byte) (s : State) : Host.Outcome State Fault Refusal :=
  .next (takeRequest 0x63 reverify client body s)

def execClearHold (client : Byte) (body : List Byte) (s : State) : Host.Outcome State Fault Refusal :=
  .next (takeRequest 0x64 clearHold client body s)

def execReadCounters (client : Byte) (body : List Byte) (s : State) : Host.Outcome State Fault Refusal :=
  .next (takeRequest 0x65 readCounters client body s)

end Sys2Proof.Machine
end

