-- ==== Sys2Proof/Machine/Frames.lean ====
section
/-! DEFINITION. A whole host frame, as clocked (R170 to R173), and the request kinds of R188. -/
namespace Sys2Proof.Machine

/-- Kind 0x43: the unit class byte tells its requests apart; an undefined class is BAD_VALUE (R186). -/
def readAnyUnit : Block := fun q body s =>
  match body with
  | [cls, _] =>
    if cls = 0 then readLane q body s
    else if cls = 1 then readSlot q body s
    else if cls = 2 then readChannel q body s
    else .refused 1 [.badValue]
  | _ => .refused 1 [.badLength]

/-- Kind 0x81: the operation byte tells its requests apart; an undefined operation is BAD_VALUE (R186). -/
def indicationOperation : Block := fun q body s =>
  match body with
  | [op, _, _, _] =>
    if op = 1 then ackIndications q body s
    else if op = 2 then setEnables q body s
    else .refused 1 [.badValue]
  | _ => .refused 1 [.badLength]

/-- R188: the request kinds; none where the kind byte is UNKNOWN_KIND. -/
def blockOf (kind : Byte) : Option Block :=
  match kind.toNat with
  | 0x10 => some createRecord
  | 0x11 => some findRecord
  | 0x12 => some readRecord
  | 0x13 => some setAccess
  | 0x14 => some retireRecord
  | 0x20 => some beginGrid
  | 0x21 => some gridChunk
  | 0x22 => some commitGrid
  | 0x23 => some abandonGrid
  | 0x24 => some readPool
  | 0x25 => some readNode
  | 0x30 => some translate
  | 0x31 => some setTrim
  | 0x40 => some bindLane
  | 0x41 => some unbindLane
  | 0x42 => some setLanePolicy
  | 0x43 => some readAnyUnit
  | 0x50 => some setHeadCorrection
  | 0x60 => some setPatches
  | 0x61 => some setNominalWhite
  | 0x62 => some setMatchSettings
  | 0x63 => some reverify
  | 0x64 => some clearHold
  | 0x65 => some readCounters
  | 0x70 => some setSlotPaper
  | 0x71 => some setSlotLine
  | 0x80 => some readNotices
  | 0x81 => some indicationOperation
  | 0x90 => some setClient
  | 0x91 => some clearTables
  | 0x92 => some restart
  | _ => none

/-- R171: a sound request frame is taken; R178: an unknown kind is refused. -/
def takeFrame (kind client : Byte) (body : List Byte) (s : State) : State :=
  match blockOf kind with
  | some run => takeRequest kind run client body s
  | none => takeUnknown kind client body s

/-- R171: the fault of a request frame's bytes, the first of the table; none for sound bytes. `rest` follows the type
byte. -/
def frameFault (rest : List Byte) (extraEdges : Bool) : Option LinkFault :=
  match rest with
  | _ :: _ :: len :: body =>
    if Config.bodyMax < len.toNat then some .long
    else if body.length < len.toNat + 1 then some .short
    else if len.toNat + 1 < body.length || extraEdges then some .long
    else if byteSum (0x6B :: rest) ≠ 0 then some .check
    else none
  | _ => some .short

/-- R171: the request frame after its type byte. -/
def requestFrame (rest : List Byte) (extraEdges : Bool) (s : State) : State :=
  match frameFault rest extraEdges with
  | some cause => (s.driveFill (1 + rest.length)).discardFrame cause
  | none =>
    match rest with
    | client :: kind :: len :: body => takeFrame kind client (body.take len.toNat) s
    | _ => s

/-- R171: a frame that overlaps no procedure, by its type byte. R170: one with no whole byte is ignored. -/
def judgeFrame (bytes : List Byte) (extraEdges : Bool) (s : State) : State :=
  match bytes with
  | [] => s.ignoreFrame
  | type :: rest =>
    if type = 0x6B then requestFrame rest extraEdges s
    else if type = 0x6C then fetchFrame rest s
    else (s.driveFill (1 + rest.length)).discardFrame .type

/-- R170: a frame, at the release of SEL_N; one within a procedure finds SDO undriven. DESIGN CHOICE (log 15, unsafe):
one that overlaps a procedure says so itself and has no effect but on SDO, which carried fill bytes alone while the
engine was not held in reset; a fetch that the procedure cuts short (R173) is a FETCH command of its own. -/
def hostFrame (f : HostFrame) (s : State) : State :=
  match f.overlap with
  | some driven => s.driveFill driven
  | none => if s.procedure.isSome then s.ignoreFrame else judgeFrame f.bytes f.extraEdges s

/-! ## The meanings -/

def execRequestFrameDiscard (frame : HostFrame) (s : State) : Host.Outcome State Fault Refusal :=
  .next (hostFrame frame s)

def execFetch (after : List Byte) (s : State) : Host.Outcome State Fault Refusal := .next (fetchFrame after s)

end Sys2Proof.Machine
end

