-- ==== Sys2Proof/Machine/Dispatch.lean ====
section
/-! DEFINITION. One arm per command, one direct call of its meaning. -/
namespace Sys2Proof.Machine

def exec (i : Instr) (s : State) : Host.Outcome State Fault Refusal :=
  match i with
  | .createRecord client body => Sys2Proof.Machine.execCreateRecord client body s
  | .findRecord client body => Sys2Proof.Machine.execFindRecord client body s
  | .readRecord client body => Sys2Proof.Machine.execReadRecord client body s
  | .setAccess client body => Sys2Proof.Machine.execSetAccess client body s
  | .retireRecord client body => Sys2Proof.Machine.execRetireRecord client body s
  | .beginGrid client body => Sys2Proof.Machine.execBeginGrid client body s
  | .gridChunk client body => Sys2Proof.Machine.execGridChunk client body s
  | .commitGrid client body => Sys2Proof.Machine.execCommitGrid client body s
  | .abandonGrid client body => Sys2Proof.Machine.execAbandonGrid client body s
  | .readPool client body => Sys2Proof.Machine.execReadPool client body s
  | .readNode client body => Sys2Proof.Machine.execReadNode client body s
  | .translate client body => Sys2Proof.Machine.execTranslate client body s
  | .setTrim client body => Sys2Proof.Machine.execSetTrim client body s
  | .bindLane client body => Sys2Proof.Machine.execBindLane client body s
  | .unbindLane client body => Sys2Proof.Machine.execUnbindLane client body s
  | .setLanePolicy client body => Sys2Proof.Machine.execSetLanePolicy client body s
  | .readLane client rest => Sys2Proof.Machine.execReadLane client rest s
  | .readSlot client rest => Sys2Proof.Machine.execReadSlot client rest s
  | .readChannel client rest => Sys2Proof.Machine.execReadChannel client rest s
  | .setHeadCorrection client body => Sys2Proof.Machine.execSetHeadCorrection client body s
  | .setPatches client body => Sys2Proof.Machine.execSetPatches client body s
  | .setNominalWhite client body => Sys2Proof.Machine.execSetNominalWhite client body s
  | .setMatchSettings client body => Sys2Proof.Machine.execSetMatchSettings client body s
  | .reverify client body => Sys2Proof.Machine.execReverify client body s
  | .clearHold client body => Sys2Proof.Machine.execClearHold client body s
  | .readCounters client body => Sys2Proof.Machine.execReadCounters client body s
  | .setSlotPaper client body => Sys2Proof.Machine.execSetSlotPaper client body s
  | .setSlotLine client body => Sys2Proof.Machine.execSetSlotLine client body s
  | .readNotices client body => Sys2Proof.Machine.execReadNotices client body s
  | .ackIndications client rest => Sys2Proof.Machine.execAckIndications client rest s
  | .setEnables client rest => Sys2Proof.Machine.execSetEnables client rest s
  | .setClient client body => Sys2Proof.Machine.execSetClient client body s
  | .clearTables client body => Sys2Proof.Machine.execClearTables client body s
  | .restart client body => Sys2Proof.Machine.execRestart client body s
  | .requestFrameDiscard frame => Sys2Proof.Machine.execRequestFrameDiscard frame s
  | .fetch after => Sys2Proof.Machine.execFetch after s
  | .checkCompletes => Sys2Proof.Machine.execCheckCompletes s
  | .stagingExpiry context => Sys2Proof.Machine.execStagingExpiry context s
  | .frameStart lane => Sys2Proof.Machine.execFrameStart lane s
  | .referenceChange lane => Sys2Proof.Machine.execReferenceChange lane s
  | .signalLoss lane => Sys2Proof.Machine.execSignalLoss lane s
  | .stripOpen channel count => Sys2Proof.Machine.execStripOpen channel count s
  | .reading channel index L a b quality => Sys2Proof.Machine.execReading channel index L a b quality s
  | .stripClose channel => Sys2Proof.Machine.execStripClose channel s
  | .inactivityExpiry channel => Sys2Proof.Machine.execInactivityExpiry channel s
  | .messageDiscard cause => Sys2Proof.Machine.execMessageDiscard cause s
  | .gapTimerExpiry => Sys2Proof.Machine.execGapTimerExpiry s
  | .lineTimerExpiry slot => Sys2Proof.Machine.execLineTimerExpiry slot s
  | .powerOnOnset => Sys2Proof.Machine.execPowerOnOnset s
  | .supplyLowOnset => Sys2Proof.Machine.execSupplyLowOnset s
  | .coreClockFailOnset => Sys2Proof.Machine.execCoreClockFailOnset s
  | .pinOnset => Sys2Proof.Machine.execPinOnset s
  | .conditionEnd condition => Sys2Proof.Machine.execConditionEnd condition s
  | .holdTimerExpiry => Sys2Proof.Machine.execHoldTimerExpiry s
  | .receivedByte byte => Sys2Proof.Machine.execReceivedByte byte s

end Sys2Proof.Machine
end

