-- ==== Sys2Proof/Machine/Timers.lean ====
section
/-! DEFINITION. What a step does on an empty queue: 1 ms passes (log 2). Every running timer counts down; those that
reach 0 run out, in a fixed order (log 3). -/
namespace Sys2Proof.Machine

def Context.count : Context → Context
  | .idle => .idle
  | .loading h b c t => .loading h b c (t - 1)
  | .checking h b t client strict => .checking h b (t - 1) client strict

def Signal.count : Signal → Signal
  | .noSignal => .noSignal
  | .active t => .active (t - 1)

def LineState.count : LineState → LineState
  | .off => .off
  | .arming t => .arming (t - 1)
  | .on => .on
  | .releasing t => .releasing (t - 1)

def Receiver.count : Receiver → Receiver
  | .hunting => .hunting
  | .receiving bytes t => .receiving bytes (t - 1)

def Channel.count (ch : Channel) : Channel :=
  { ch with strip := ch.strip.map fun st => { st with timer := st.timer - 1 } }

/-- Every running timer of the blocks 1 ms further on. -/
def State.countDown (s : State) : State :=
  { s with
    contexts := s.contexts.map Context.count
    lanes := s.lanes.map fun x => { x with signal := x.signal.count }
    channels := s.channels.map Channel.count
    slots := s.slots.map fun x => { x with line := x.line.count }
    receiver := s.receiver.count }

/-- R39, R41: a staging expiry due, or the bound of the check. -/
def expireContext (s : State) (c : ContextId) : State :=
  match s.contexts[c] with
  | .loading _ _ _ 0 => stagingExpiry c s
  | .checking _ _ 0 _ _ => checkCompletes s
  | _ => s

def expireLane (s : State) (l : LaneId) : State :=
  match s.lanes[l].signal with
  | .active 0 => signalLoss l s
  | _ => s

def expireChannel (s : State) (c : ChannelId) : State :=
  match s.channels[c].strip with
  | some ⟨_, _, 0⟩ => inactivityExpiry c s
  | _ => s

def expireSlot (s : State) (n : SlotId) : State :=
  match s.slots[n].line with
  | .arming 0 => lineTimerExpiry n s
  | .releasing 0 => lineTimerExpiry n s
  | _ => s

def expireGap (s : State) : State :=
  match s.receiver with
  | .receiving _ 0 => gapExpiry s
  | _ => s

/-- Every timer that has reached 0 runs out. -/
def State.runOut (s : State) : State :=
  expireGap
    ((List.finRange 4).foldl expireSlot
      ((List.finRange 6).foldl expireChannel
        ((List.finRange 2).foldl expireLane
          ((List.finRange 4).foldl expireContext s))))

/-- 1 ms of the hold timer; no other timer runs during a procedure (R167). -/
def holdTick (p : Procedure) (s : State) : State :=
  match p.phase with
  | .condition => s
  | .hold t => if t ≤ 1 then holdExpiry s else { s with procedure := some { p with phase := .hold (t - 1) } }

/-- 1 ms passes. -/
def tick (s : State) : State :=
  match s.procedure with
  | some p => holdTick p s
  | none => s.countDown.runOut

end Sys2Proof.Machine
end

