-- ==== Sys2Proof/WellFormed.lean ====
section
/-! DEFINITION. When a command is one the block's inputs can carry: a request body holds at most 200 bytes (R171), and
of a frame that overlaps a procedure no more bytes met a driven SDO than it has (R170). Every other operand is in range
by its type. -/
namespace Sys2Proof

/-- The 34 rows that are requests: the kind, the client number and the body of the frame each stands for (R187, R188). -/
def requestOf : Instr → Option (Byte × Byte × List Byte)
  | .createRecord c b => some (0x10, c, b)
  | .findRecord c b => some (0x11, c, b)
  | .readRecord c b => some (0x12, c, b)
  | .setAccess c b => some (0x13, c, b)
  | .retireRecord c b => some (0x14, c, b)
  | .beginGrid c b => some (0x20, c, b)
  | .gridChunk c b => some (0x21, c, b)
  | .commitGrid c b => some (0x22, c, b)
  | .abandonGrid c b => some (0x23, c, b)
  | .readPool c b => some (0x24, c, b)
  | .readNode c b => some (0x25, c, b)
  | .translate c b => some (0x30, c, b)
  | .setTrim c b => some (0x31, c, b)
  | .bindLane c b => some (0x40, c, b)
  | .unbindLane c b => some (0x41, c, b)
  | .setLanePolicy c b => some (0x42, c, b)
  | .readLane c b => some (0x43, c, 0x00 :: b)
  | .readSlot c b => some (0x43, c, 0x01 :: b)
  | .readChannel c b => some (0x43, c, 0x02 :: b)
  | .setHeadCorrection c b => some (0x50, c, b)
  | .setPatches c b => some (0x60, c, b)
  | .setNominalWhite c b => some (0x61, c, b)
  | .setMatchSettings c b => some (0x62, c, b)
  | .reverify c b => some (0x63, c, b)
  | .clearHold c b => some (0x64, c, b)
  | .readCounters c b => some (0x65, c, b)
  | .setSlotPaper c b => some (0x70, c, b)
  | .setSlotLine c b => some (0x71, c, b)
  | .readNotices c b => some (0x80, c, b)
  | .ackIndications c b => some (0x81, c, 0x01 :: b)
  | .setEnables c b => some (0x81, c, 0x02 :: b)
  | .setClient c b => some (0x90, c, b)
  | .clearTables c b => some (0x91, c, b)
  | .restart c b => some (0x92, c, b)
  | .requestFrameDiscard _ | .fetch _ => none
  | .checkCompletes | .stagingExpiry _ | .frameStart _ | .referenceChange _ | .signalLoss _ => none
  | .stripOpen _ _ | .reading _ _ _ _ _ _ | .stripClose _ | .inactivityExpiry _ => none
  | .messageDiscard _ | .gapTimerExpiry | .receivedByte _ | .lineTimerExpiry _ => none
  | .powerOnOnset | .supplyLowOnset | .coreClockFailOnset | .pinOnset | .conditionEnd _ | .holdTimerExpiry => none

/-- R170: the driven bytes of a frame are among its bytes. -/
def HostFrame.wf (f : HostFrame) : Bool := f.overlap.all fun driven => driven ≤ f.bytes.length

/-- The check of one command. -/
def Instr.wf (i : Instr) : Bool :=
  match requestOf i, i with
  | some (_, _, body), _ => body.length ≤ Config.bodyMax
  | none, .requestFrameDiscard f => f.wf
  | none, _ => true

end Sys2Proof
end

