-- ==== Sys2Proof/Safety.lean ====
section
/-! DEFINITION. What counts as a safe run: a step that completes, the invariants every step keeps, and the words the
obligations share (who may use a record, when a request is taken, what a response leaves). -/
namespace Sys2Proof.Machine

/-- A step that answers a next state. -/
def Completes (s : State) : Prop := ∃ t, step s = .next t

/-! ## When a request is taken, and what its answer leaves -/

/-- R171: a sound request frame is taken: no procedure runs and no response is PENDING. -/
abbrev State.Takes (s : State) : Prop := s.procedure = none ∧ s.response ≠ .pending

/-- The client number as the frame carries it. -/
abbrev clientByte (c : ClientId) : Byte := byteOf c.val

/-- R174: the state with a DONE or DONE_ADJUSTED response of the kind in the slot; the frame's `n` body bytes and its
five others met fill bytes on SDO (R170). -/
def State.answers (s : State) (kind : Byte) (n : Nat) (outcome : OutcomeCode) (result : List Byte) : State :=
  { s with sdo := fill (5 + n), response := .ready ⟨kind, outcome, 0, [], result⟩ }

/-- R180, R181: the state with a REFUSED response to a request of client c, which enters the fault set if it is
strict. -/
def State.refuses (s : State) (c : ClientId) (kind : Byte) (n : Nat) (group : Nat) (causes : List Cause) : State :=
  { s with
    sdo := fill (5 + n)
    response := .ready ⟨kind, .refused, group, causes, []⟩
    global :=
      if s.clients[c].strict then
        { s.global with pending := s.global.pending ||| 0x10, faultSet := s.global.faultSet ||| clientBit c }
      else s.global }

/-- R172: the state after a frame of `n` bytes is discarded. -/
def State.discards (s : State) (n : Nat) (cause : LinkFault) : State :=
  { s with
    sdo := fill n
    global := { s.global with pending := s.global.pending ||| 0x04, linkError := some cause } }

/-! ## Access to records (R7) -/

abbrev IsAdmin (s : State) (c : ClientId) : Prop := s.clients[c].admin = true
abbrev MayLookup (s : State) (c : ClientId) (r : Record) : Prop :=
  IsAdmin s c ∨ inSet r.change c = true ∨ inSet r.lookup c = true
abbrev MayChange (s : State) (c : ClientId) (r : Record) : Prop := IsAdmin s c ∨ inSet r.change c = true
abbrev MayOwn (s : State) (c : ClientId) (r : Record) : Prop := IsAdmin s c ∨ c = r.owner

/-- R1: the slot of handle h holds the LIVE record r. -/
abbrev State.Live (s : State) (h : Handle) (r : Record) : Prop := s.records[h].content = .live r

/-- R9: a handle byte names no LIVE record. -/
abbrev State.NoRecord (s : State) (b : Byte) : Prop := ∀ h : Handle, byteOf h.val = b → s.record? h = none

/-- The slot of handle h with its record replaced and its indication sets kept. -/
def State.store (s : State) (h : Handle) (r : Record) : Vector RecordSlot 48 :=
  s.records.set h ⟨.live r, s.records[h].pending, s.records[h].enabled⟩

/-- R106: the channels after every open strip on the record has been abandoned with CHANGED. -/
def State.channelsChanged (s : State) (h : Handle) : Vector Channel 6 :=
  Vector.ofFn fun c : ChannelId =>
    if s.attached c = some h ∧ s.channels[c].strip.isSome then
      { s.channels[c] with
        strip := none, lastAbandon := some .changed, pending := s.channels[c].pending ||| 0x04 }
    else s.channels[c]

/-- R140: the slots after the match state of record h has settled: the condition of a slot whose active paper it is
goes to `now`. -/
def State.slotsAfter (s : State) (h : Handle) (now : Bool) : Vector PrinterSlot 4 :=
  Vector.ofFn fun n : SlotId =>
    if s.slots[n].paper = some h then s.slots[n].edge (s.lineCondition n) now else s.slots[n]

/-- R33: context c, and no other, belongs to record h. -/
abbrev State.StagedOnlyAt (s : State) (h : Handle) (c : ContextId) : Prop :=
  s.contexts[c].record? = some h ∧ ∀ d, s.contexts[d].record? = some h → d = c

/-! ## The kinds of command -/

/-- The frame commands, whose SDO stays undriven during a procedure (R170). -/
def isFrame (i : Instr) : Bool :=
  (requestOf i).isSome || (match i with | .requestFrameDiscard _ => true | .fetch _ => true | _ => false)

/-- The six rows of the Supervisor. -/
def isSupervisor : Instr → Bool
  | .powerOnOnset | .supplyLowOnset | .coreClockFailOnset | .pinOnset | .conditionEnd _ | .holdTimerExpiry => true
  | _ => false

/-! ## Invariants -/

/-- R176: client 0's admin flag is on. -/
abbrev State.ClientZeroAdmin (s : State) : Prop := s.clients[0].admin = true

/-- R3: no two records outside FREE have the same key. -/
abbrev State.KeysUnique (s : State) : Prop :=
  ∀ g h : Handle, s.records[g].key?.isSome → s.records[g].key? = s.records[h].key? → g = h

/-- The canonical form of every bank. -/
abbrev State.BanksCanonical (s : State) : Prop := ∀ b : BankId, s.banks[b].wf = true

/-- R151: a source's sets hold no indication of another class. -/
abbrev State.SetsInClass (s : State) : Prop :=
  ∀ src ∈ allSources, s.pendingOf src &&& ~~~src.members = 0 ∧ s.enabledOf src &&& ~~~src.members = 0

/-- R139, R141: what a slot's line state says of its condition. -/
def lineAgrees (o : Override) (line : LineState) (condition : Bool) : Bool :=
  match o, line with
  | .auto, .arming _ => condition
  | .auto, .on => condition
  | .auto, .off => !condition
  | .auto, .releasing _ => !condition
  | .forceOn, l => l = .off
  | .forceOff, l => l = .off

/-- R141: the machine keeps the condition true in ARMING and ON and false in OFF and RELEASING, and an override holds
it frozen in OFF. -/
abbrev State.LinesAgree (s : State) : Prop :=
  ∀ n : SlotId, lineAgrees s.slots[n].override s.slots[n].line (s.lineCondition n) = true

/-- A CHECKING context. -/
def Context.isChecking : Context → Bool
  | .checking _ _ _ _ _ => true
  | .idle => false
  | .loading _ _ _ _ => false

/-- R46, R174: the response is PENDING exactly while one context is CHECKING. -/
abbrev State.PendingIsChecking (s : State) : Prop :=
  (s.response = .pending ↔ ∃ c : ContextId, s.contexts[c].isChecking = true) ∧
    ∀ c d : ContextId, s.contexts[c].isChecking = true → s.contexts[d].isChecking = true → c = d

/-- R153: outside a procedure each accumulating detail is non-empty exactly when its indication is pending. -/
abbrev State.DetailsMatch (s : State) : Prop :=
  (s.global.pending &&& 0x01 ≠ 0 ↔ s.global.resetReasons ≠ 0) ∧
    (s.global.pending &&& 0x02 ≠ 0 ↔ s.global.expired ≠ 0) ∧
    (s.global.pending &&& 0x10 ≠ 0 ↔ s.global.faultSet ≠ 0)

/-- R161, R167: while a procedure runs every block is at its reset values, and some reset reason is set. `sdo` is free:
it records the last frame, which may be the RESTART's own. -/
abbrev State.HeldAtReset (s : State) : Prop :=
  s.global.resetReasons ≠ 0 ∧
    s = { State.blank with
      global := { Global.blank with resetReasons := s.global.resetReasons }
      sdo := s.sdo
      procedure := s.procedure, conditions := s.conditions, pending := s.pending }

/-- R153, R161, R167: the details outside a procedure, the held blocks during one. -/
abbrev State.DetailsOrHeld (s : State) : Prop :=
  if s.procedure = none then s.DetailsMatch else s.HeldAtReset

/-- R28, R33: no bank has two owners among the records and the staging contexts, and the contexts belong to
different LIVE records. -/
abbrev State.PoolExclusive (s : State) : Prop :=
  (∀ g h : Handle, (s.bankOf g).isSome → s.bankOf g = s.bankOf h → g = h) ∧
    (∀ (h : Handle) (c : ContextId), (s.bankOf h).isSome → s.bankOf h ≠ s.contexts[c].bank?) ∧
    (∀ c d : ContextId, s.contexts[c].bank?.isSome → s.contexts[c].bank? = s.contexts[d].bank? → c = d) ∧
    (∀ c d : ContextId, s.contexts[c].record?.isSome → s.contexts[c].record? = s.contexts[d].record? → c = d) ∧
    (∀ (c : ContextId) (h : Handle), s.contexts[c].record? = some h → (s.record? h).isSome)

end Sys2Proof.Machine
end

