-- ==== Sys2Proof/Certificates/Slice0/Obligations.lean ====
section
/-! DEFINITION. The statements for the provers. A statement on a request is about every state that takes it
(`State.Takes`); what a discard, a procedure or a refusal does instead has statements of its own. -/
section
open Sys2Proof Sys2Proof.Machine

/-! ## One step -/

/-- A step takes the command at the front of the queue (log 1: the queue is the model's). -/
def Obligations.StepRunsFrontCommand : Prop :=
  ∀ (c : Instr) (rest : List Instr) (s : State),
    step { s with pending := c :: rest } = exec c { s with pending := rest }

/-- Log 2 (DESIGN CHOICE): on an empty queue 1 ms passes. With no procedure running, every running timer counts down by
1; while none is at its last millisecond nothing else changes; and then the expiry of every timer that stands at 0 is
taken, one after the other in the fixed order of log 3 (DESIGN CHOICE). During a procedure (R164, R167) the hold timer
alone counts, and runs out from its last millisecond. -/
def Obligations.IdleStepCountsTimersDown : Prop :=
  (∀ s : State, s.pending = [] → s.procedure = none →
    let counted : State := { s with
      contexts := s.contexts.map fun x => match x with
        | .loading h b k t => .loading h b k (t - 1)
        | .checking h b t c f => .checking h b (t - 1) c f
        | .idle => .idle
      lanes := s.lanes.map fun x =>
        { x with signal := match x.signal with | .active t => .active (t - 1) | .noSignal => .noSignal }
      channels := s.channels.map fun x =>
        { x with strip := match x.strip with | some st => some { st with timer := st.timer - 1 } | none => none }
      slots := s.slots.map fun x =>
        { x with line := match x.line with
            | .arming t => .arming (t - 1) | .releasing t => .releasing (t - 1) | .off => .off | .on => .on }
      receiver := match s.receiver with | .receiving bs t => .receiving bs (t - 1) | .hunting => .hunting }
    let takes (i : Instr) (t : State) : State := match exec i t with | .next u => u | .fault _ => t | .refused _ => t
    let contextOut (t : State) (c : ContextId) : State := match t.contexts[c] with
      | .loading _ _ _ 0 => takes (.stagingExpiry c) t | .checking _ _ 0 _ _ => takes .checkCompletes t | _ => t
    let laneOut (t : State) (l : LaneId) : State := match t.lanes[l].signal with
      | .active 0 => takes (.signalLoss l) t | _ => t
    let channelOut (t : State) (k : ChannelId) : State := match t.channels[k].strip with
      | some ⟨_, _, 0⟩ => takes (.inactivityExpiry k) t | _ => t
    let slotOut (t : State) (n : SlotId) : State := match t.slots[n].line with
      | .arming 0 => takes (.lineTimerExpiry n) t | .releasing 0 => takes (.lineTimerExpiry n) t | _ => t
    let gapOut (t : State) : State := match t.receiver with
      | .receiving _ 0 => takes .gapTimerExpiry t | _ => t
    step s = .next (gapOut ((List.finRange 4).foldl slotOut
      ((List.finRange 6).foldl channelOut
        ((List.finRange 2).foldl laneOut ((List.finRange 4).foldl contextOut counted))))) ∧
    ((∀ c : ContextId, match s.contexts[c] with
        | .loading _ _ _ t => 1 < t | .checking _ _ t _ _ => 1 < t | .idle => True) →
      (∀ l : LaneId, match s.lanes[l].signal with | .active t => 1 < t | .noSignal => True) →
      (∀ c : ChannelId, match s.channels[c].strip with | some st => 1 < st.timer | none => True) →
      (∀ n : SlotId, match s.slots[n].line with | .arming t => 1 < t | .releasing t => 1 < t | _ => True) →
      (match s.receiver with | .receiving _ t => 1 < t | .hunting => True) →
      step s = .next counted)) ∧
  ∀ (s : State) (p : Procedure), s.pending = [] → s.procedure = some p →
    (p.phase = .condition → step s = .next s) ∧
    (∀ t, p.phase = .hold t →
      (1 < t → step s = .next { s with procedure := some { p with phase := .hold (t - 1) } }) ∧
      (t ≤ 1 → step s = exec .holdTimerExpiry s))

/-- R161, R139, R68, R93, R176: what a power-on procedure leaves. -/
def Obligations.ResetLeavesSpecValues : Prop :=
  (∀ h : Handle, State.reset.records[h] = ⟨.free, 0, 0⟩) ∧
  (∀ b : BankId, State.reset.bankFree b = true) ∧ (∀ c : ContextId, State.reset.contexts[c] = .idle) ∧
  (∀ l : LaneId, State.reset.lanes[l] =
    ⟨.noSignal, none, .absent, .keep, .pass, none, none, none, none, none, [], 0, 0⟩) ∧
  (∀ c : ChannelId, State.reset.channels[c] = ⟨⟨0, 0, 0, 0, 0, 0⟩, none, none, 0, 0⟩) ∧
  (∀ n : SlotId, State.reset.slots[n] = ⟨none, .auto, 100, 300, .off, 0, 0⟩ ∧ State.reset.pval n = false) ∧
  State.reset.receiver = .hunting ∧ State.reset.response = .empty ∧ State.reset.procedure = none ∧
  (∀ c : ClientId, State.reset.clients[c] = ⟨false, c == 0⟩) ∧
  State.reset.global = ⟨0x01, 0, 0x01, 0, none, none, 0⟩ ∧ State.reset.attn = false

/-! ## The host link -/

/-- R167, R170: from the start of a procedure to the end of its hold a command of another block changes no state, and a
frame within it finds SDO undriven. Log 15 (DESIGN CHOICE) is the clause on a frame that overlaps the procedure: the
frame says its overlap itself, and whatever its type SDO carried fill bytes alone outside the procedure; the bytes of a
fetch that the procedure cuts short, with the status that R173 puts on SDO, are a FETCH command of their own. -/
def Obligations.ProcedureTakesNoOtherEvent : Prop :=
  ∀ (i : Instr) (s : State), s.procedure ≠ none → isSupervisor i = false →
    exec i s = .next (match i with
      | .requestFrameDiscard ⟨_, _, some driven⟩ => { s with sdo := fill driven }
      | _ => if isFrame i then { s with sdo := [] } else s)

/-- R171, R172: a sound request frame that finds the slot PENDING is discarded as BUSY, the response untouched. R178
step 1: one from a client number above 7 is refused with BAD_VALUE whatever its body, and adds nothing to the fault
set. -/
def Obligations.BusyOrUnknownClientStopsARequest : Prop :=
  ∀ (i : Instr) (kind client : Byte) (body : List Byte) (s : State), requestOf i = some (kind, client, body) →
    i.wf = true → s.procedure = none →
    (s.response = .pending → exec i s = .next (s.discards (5 + body.length) .busy)) ∧
    (s.response ≠ .pending → 7 < client.toNat →
      exec i s = .next { s with
        sdo := fill (5 + body.length), response := .ready ⟨kind, .refused, 1, [.badValue], []⟩ })

/-- R181, R180: a request that is refused when taken changes the response slot, and for a strict client the fault
set and CLIENT_FAULT, and nothing else. -/
def Obligations.RefusedRequestChangesNothingElse : Prop :=
  ∀ (i : Instr) (kind : Byte) (c : ClientId) (body : List Byte) (s t : State) (group : Nat) (causes : List Cause)
    (result : List Byte), requestOf i = some (kind, clientByte c, body) → i.wf = true → s.Takes →
    exec i s = .next t → t.response = .ready ⟨kind, .refused, group, causes, result⟩ →
    t = s.refuses c kind body.length group causes ∧ result = []

/-- R178, R186, R188, R9: refusals of form, target and access that many requests share: a body of another length than
its kind's one length; an undefined mode, override or on/off code; a handle that names no LIVE record; a client without
the access of R7. -/
def Obligations.SharedRefusalsOfFormTargetAndAccess : Prop :=
  (∀ (i : Instr) (kind : Byte) (c : ClientId) (body : List Byte) (length : Nat) (s : State),
    requestOf i = some (kind, clientByte c, body) → i.wf = true → s.Takes →
    (kind, length) ∈ ([(0x11, 4), (0x12, 1), (0x13, 3), (0x14, 1), (0x20, 1), (0x22, 1), (0x23, 1), (0x24, 0), (0x25, 3),
      (0x31, 9), (0x41, 1), (0x42, 2), (0x43, 2), (0x50, 13), (0x62, 14), (0x63, 1), (0x64, 1), (0x65, 1), (0x71, 6),
      (0x80, 0), (0x81, 4), (0x90, 3), (0x91, 0), (0x92, 0)] : List (Byte × Nat)) →
    body.length ≠ length → exec i s = .next (s.refuses c kind body.length 1 [.badLength])) ∧
  (∀ (s : State) (c : ClientId) (mode o number strict admin x1 x0 y1 y0 : Byte) (rest : List Byte), s.Takes →
    (mode ∉ ([1, 2, 3] : List Byte) → rest.length < 200 →
      exec (.translate (clientByte c) (mode :: rest)) s =
        .next (s.refuses c 0x30 (rest.length + 1) 1 [.badValue])) ∧
    (2 < o.toNat →
      exec (.setSlotLine (clientByte c) [number, o, x1, x0, y1, y0]) s = .next (s.refuses c 0x71 6 1 [.badValue])) ∧
    (1 < strict.toNat ∨ 1 < admin.toNat →
      exec (.setClient (clientByte c) [number, strict, admin]) s = .next (s.refuses c 0x90 3 1 [.badValue]))) ∧
  (∀ (i : Instr) (kind : Byte) (c : ClientId) (b : Byte) (s : State), requestOf i = some (kind, clientByte c, [b]) →
    s.Takes → s.NoRecord b → kind ∈ ([0x12, 0x14, 0x20, 0x22, 0x23, 0x63, 0x64, 0x65] : List Byte) →
    exec i s = .next (s.refuses c kind 1 2 [.noSuchRecord])) ∧
  (∀ (i : Instr) (kind : Byte) (c : ClientId) (h : Handle) (r : Record) (s : State),
    requestOf i = some (kind, clientByte c, [byteOf h.val]) → s.Takes → s.Live h r →
    (kind = 0x12 ∧ ¬ MayLookup s c r) ∨
      (kind ∈ ([0x14, 0x20, 0x22, 0x23, 0x63, 0x64] : List Byte) ∧ ¬ MayChange s c r) →
    exec i s = .next (s.refuses c kind 1 3 [.notPermitted]))

/-- R171, R172: the first fault of a frame's bytes discards it with LINK_FRAME_ERROR; no whole byte is no frame
(R170). A frame of type 0x6C is the fetch of its other bytes (R173). The last clause is log 15 (DESIGN CHOICE): a frame
that overlaps a reset procedure, which R170 drops or ignores, says its overlap itself; in every state and whatever its
type it changes SDO alone, which carried fill bytes alone outside the procedure. The bytes of a fetch that the procedure
cuts short, with the status that R173 puts on SDO, are a FETCH command of their own. -/
def Obligations.FaultyFrameIsDiscarded : Prop :=
  (∀ (bytes : List Byte) (extra : Bool) (s : State), s.procedure = none →
    let outcome (cause : LinkFault) :=
      exec (.requestFrameDiscard ⟨bytes, extra, none⟩) s = .next (s.discards bytes.length cause)
    match bytes with
    | [] => exec (.requestFrameDiscard ⟨bytes, extra, none⟩) s = .next { s with sdo := [] }
    | type :: rest =>
      (type ≠ 0x6B → type ≠ 0x6C → outcome .type) ∧
      (type = 0x6B → ∀ len : Byte, rest[2]? = some len → 200 < len.toNat → outcome .long) ∧
      (type = 0x6B → rest.length < 3 → outcome .short) ∧
      (type = 0x6B → ∀ len : Byte, rest[2]? = some len → len.toNat ≤ 200 →
        (bytes.length < 5 + len.toNat → outcome .short) ∧
        (5 + len.toNat < bytes.length → outcome .long) ∧
        (bytes.length = 5 + len.toNat → extra = true → outcome .long) ∧
        (bytes.length = 5 + len.toNat → extra = false → bytes.sum ≠ 0 → outcome .check)) ∧
      (type = 0x6C → exec (.requestFrameDiscard ⟨bytes, extra, none⟩) s = exec (.fetch rest) s)) ∧
  ∀ (bytes : List Byte) (extra : Bool) (driven : Nat) (s : State),
    exec (.requestFrameDiscard ⟨bytes, extra, some driven⟩) s = .next { s with sdo := fill driven }

/-- R171, R178, R187, R188; that the row REQUEST_FRAME_DISCARD takes a sound frame as its request is log 7 (DEDUCED).
A frame of type 0x6B, client, kind, length, body and the check byte that makes the sum 0 is, in every state and from
every client number, the request of its kind. One that no request command stands for (a kind that is none of the 31, or
kind 0x43 or 0x81 with an undefined unit class or operation, or without it) is ignored during a procedure, discarded as
BUSY when the slot is PENDING, and refused in group 1 otherwise, a client number above 7 adding its BAD_VALUE in step 1
and nothing to the fault set. -/
def Obligations.SoundFrameIsTaken : Prop :=
  ∀ (client kind : Byte) (body : List Byte) (check : Byte) (s : State), body.length ≤ 200 →
    (0x6B :: client :: kind :: byteOf body.length :: body ++ [check]).sum = 0 →
    let frame := Instr.requestFrameDiscard
      ⟨0x6B :: client :: kind :: byteOf body.length :: body ++ [check], false, none⟩
    let unknown : Prop := kind ∉ ([0x10, 0x11, 0x12, 0x13, 0x14, 0x20, 0x21, 0x22, 0x23, 0x24, 0x25, 0x30, 0x31, 0x40,
      0x41, 0x42, 0x43, 0x50, 0x60, 0x61, 0x62, 0x63, 0x64, 0x65, 0x70, 0x71, 0x80, 0x81, 0x90, 0x91, 0x92] : List Byte)
    let undefined (length : Nat) : Prop := (kind = 0x43 ∧ length = 2 ∧ ∀ x, body[0]? = some x → 2 < x.toNat) ∨
      (kind = 0x81 ∧ length = 4 ∧ ∀ x, body[0]? = some x → x ≠ 1 ∧ x ≠ 2)
    let refusedUnread (causes : List Cause) : State :=
      { s with sdo := fill (5 + body.length), response := .ready ⟨kind, .refused, 1, causes, []⟩ }
    (∀ i : Instr, requestOf i = some (kind, client, body) → exec frame s = exec i s) ∧
    (s.procedure ≠ none → exec frame s = .next { s with sdo := [] }) ∧
    (s.procedure = none → s.response = .pending → exec frame s = .next (s.discards (5 + body.length) .busy)) ∧
    (s.Takes →
      (unknown → 7 < client.toNat → exec frame s = .next (refusedUnread [.unknownKind, .badValue])) ∧
      (¬ unknown → 7 < client.toNat → exec frame s = .next (refusedUnread [.badValue])) ∧
      (∀ c : ClientId, client = clientByte c →
        (unknown → exec frame s = .next (s.refuses c kind body.length 1 [.unknownKind])) ∧
        (∀ length, undefined length →
          (body.length = length → exec frame s = .next (s.refuses c kind body.length 1 [.badValue])) ∧
          (body.length ≠ length → exec frame s = .next (s.refuses c kind body.length 1 [.badLength])))))

/-- R173, R187: a sound fetch, check byte 0x94, changes no state but SDO, which carries the status, the response when
READY, the report's own check byte (the report sums to 0) and fill bytes; other fetches are discarded. -/
def Obligations.FetchReportsTheResponseSlot : Prop :=
  ∀ (s : State), s.procedure = none →
    (∀ more : List Byte, ∃ report check,
      exec (.fetch (0x94 :: more)) s = .next { s with
        sdo := [0xFF, 0xFF] ++ (report ++ [check]).take more.length ++ fill (more.length - (report.length + 1)) } ∧
      (report ++ [check]).sum = 0 ∧
      (match s.response with
       | .empty => report = [0x00]
       | .pending => report = [0x01]
       | .ready r => ∃ n1 n0 m1 m0 : Byte,
           report = [0x02, n1, n0, r.kind, encOutcome r.outcome, byteOf r.group, m1, m0] ++ r.result ∧
           (r.result.length < 65000 → u16 n1 n0 = 5 + r.result.length) ∧
           u16 m1 m0 = (causeMask r.causes).toNat)) ∧
    exec (.fetch []) s = .next (s.discards 1 .short) ∧
    (∀ (check : Byte) (more : List Byte), check ≠ 0x94 →
      exec (.fetch (check :: more)) s = .next (s.discards (2 + more.length) .check))

/-! ## The Record Table -/

/-- R11, R12, section 1.2: CREATE_RECORD takes the lowest-numbered FREE slot, with either access set given or left
out. -/
def Obligations.CreateRecordTakesLowestFreeSlot : Prop :=
  ∀ (s : State) (c : ClientId) (kind : Kind) (m1 m0 v : Byte) (change lookup : Option Byte) (h : Handle),
    s.Takes → u16 m1 m0 ≠ 0 → s.records[h].content = .free →
    (∀ g : Handle, g < h → s.records[g].content ≠ .free) →
    (∀ g : Handle, s.records[g].key? ≠ some ⟨kind, u16 m1 m0, v.toNat⟩) →
    let presence : Byte := (if change.isSome then 1 else 0) + (if lookup.isSome then 2 else 0)
    let body := [encKind kind, m1, m0, v, presence] ++ change.toList ++ lookup.toList
    exec (.createRecord (clientByte c) body) s =
      .next { s.answers 0x10 body.length .done [byteOf h.val] with
        records := s.records.set h ⟨.live
          { data := match kind with
              | .paper => .paper ⟨⟨0, 0, 0, 0⟩, none, none, 400, false, none, none⟩
              | .display => .display
            media := u16 m1 m0, variant := v.toNat, owner := c
            change := change.getD (clientBit c), lookup := lookup.getD 0xFF
            bank := none, patches := [], settings := ⟨2, 3, true, false, 300, 1, 12, true, false⟩
            state := .unverified, passStreak := 0, failStreak := 0, windowStrips := 0, windowFailing := 0
            hold := none, passed := 0, failed := 0, voided := 0 }, 0, 0⟩ }

/-- R10, with R178 and R186 for the body's form: the refusals of CREATE_RECORD. A body too short for its presence mask,
or of another length than the mask gives, is BAD_LENGTH; a mask with a bit above bit 1 is BAD_VALUE whatever follows;
then a bad kind or media code; then group 4, both causes together when both hold. -/
def Obligations.CreateRecordRefusals : Prop :=
  (∀ (s : State) (c : ClientId) (code m1 m0 v : Byte) (change lookup : Option Byte), s.Takes →
    let presence : Byte := (if change.isSome then 1 else 0) + (if lookup.isSome then 2 else 0)
    let body := [code, m1, m0, v, presence] ++ change.toList ++ lookup.toList
    let full := ∀ g : Handle, s.records[g].content ≠ .free
    let taken (kind : Kind) := ∃ g : Handle, s.records[g].key? = some ⟨kind, u16 m1 m0, v.toNat⟩
    ((code ≠ 1 ∧ code ≠ 2) ∨ u16 m1 m0 = 0 →
      exec (.createRecord (clientByte c) body) s = .next (s.refuses c 0x10 body.length 1 [.badValue])) ∧
    (∀ kind : Kind, code = encKind kind → u16 m1 m0 ≠ 0 →
      (taken kind → full →
        exec (.createRecord (clientByte c) body) s =
          .next (s.refuses c 0x10 body.length 4 [.keyTaken, .tableFull])) ∧
      (taken kind → ¬ full →
        exec (.createRecord (clientByte c) body) s = .next (s.refuses c 0x10 body.length 4 [.keyTaken])) ∧
      (¬ taken kind → full →
        exec (.createRecord (clientByte c) body) s = .next (s.refuses c 0x10 body.length 4 [.tableFull])))) ∧
  ∀ (s : State) (c : ClientId) (body : List Byte), s.Takes → body.length ≤ 200 →
    (body.length < 5 →
      exec (.createRecord (clientByte c) body) s = .next (s.refuses c 0x10 body.length 1 [.badLength])) ∧
    (∀ presence, body[4]? = some presence →
      (3 < presence.toNat →
        exec (.createRecord (clientByte c) body) s = .next (s.refuses c 0x10 body.length 1 [.badValue])) ∧
      (presence.toNat ≤ 3 → body.length ≠ 5 + presence.toNat % 2 + presence.toNat / 2 →
        exec (.createRecord (clientByte c) body) s = .next (s.refuses c 0x10 body.length 1 [.badLength])))

/-- R13: FIND_RECORD, its four outcomes; it changes no state. A premise says that no other LIVE record holds the key
(R3, stated by RecordKeysStayUnique). -/
def Obligations.FindRecordAnswersByKey : Prop :=
  ∀ (s : State) (c : ClientId) (code m1 m0 v : Byte), s.Takes →
    ((code ≠ 1 ∧ code ≠ 2) ∨ u16 m1 m0 = 0 →
      exec (.findRecord (clientByte c) [code, m1, m0, v]) s = .next (s.refuses c 0x11 4 1 [.badValue])) ∧
    (∀ kind : Kind, code = encKind kind → u16 m1 m0 ≠ 0 →
      ((∀ g r, s.Live g r → r.key ≠ ⟨kind, u16 m1 m0, v.toNat⟩) →
        exec (.findRecord (clientByte c) [code, m1, m0, v]) s = .next (s.refuses c 0x11 4 2 [.noSuchRecord])) ∧
      (∀ h r, s.Live h r → r.key = ⟨kind, u16 m1 m0, v.toNat⟩ →
        (∀ g q, s.Live g q → q.key = ⟨kind, u16 m1 m0, v.toNat⟩ → g = h) →
        (¬ MayLookup s c r →
          exec (.findRecord (clientByte c) [code, m1, m0, v]) s = .next (s.refuses c 0x11 4 3 [.notPermitted])) ∧
        (MayLookup s c r →
          exec (.findRecord (clientByte c) [code, m1, m0, v]) s =
            .next (s.answers 0x11 4 .done [byteOf h.val]))))

/-- R14, R47, R48, R86, R108, R148, R155: the reading requests answer DONE and change no state; the layouts of R188 have
their lengths, the pool, bank, context, lane, slot and channel layouts their fields in order, and kind 0x43 opens with
the unit class and number. READ_NODE gives the node of the current grid, and refuses an index above 728 and a record
without a grid. DESIGN CHOICES: the time left that READ_SLOT sends in OFF and ON and READ_POOL for CHECKING (log 25),
and the declared count and time left of an IDLE channel (log 26), are 0. -/
def Obligations.ReadingRequestsAnswerTheirLayouts : Prop :=
  (∀ (s : State) (c : ClientId), s.Takes →
    (∀ h r, s.Live h r → MayLookup s c r →
      exec (.readRecord (clientByte c) [byteOf h.val]) s = .next (s.answers 0x12 1 .done (recordLayout s h r)) ∧
      (recordLayout s h r).length = 76 + 6 * r.patches.length) ∧
    (exec (.readPool (clientByte c) []) s = .next (s.answers 0x24 0 .done (poolLayout s)) ∧
      (poolLayout s).length = 125) ∧
    (∀ l : LaneId,
      exec (.readLane (clientByte c) [byteOf l.val]) s =
        .next (s.answers 0x43 2 .done (0x00 :: byteOf l.val :: laneLayout s.lanes[l])) ∧
      (laneLayout s.lanes[l]).length = 13) ∧
    (∀ n : SlotId,
      exec (.readSlot (clientByte c) [byteOf n.val]) s =
        .next (s.answers 0x43 2 .done (0x01 :: byteOf n.val :: slotLayout s n)) ∧
      (slotLayout s n).length = 14) ∧
    (∀ k : ChannelId,
      exec (.readChannel (clientByte c) [byteOf k.val]) s =
        .next (s.answers 0x43 2 .done (0x02 :: byteOf k.val :: channelLayout s k)) ∧
      (channelLayout s k).length = 22 + 7 * (stripReadings s.channels[k].strip).length) ∧
    (exec (.readNotices (clientByte c) []) s = .next (s.answers 0x80 0 .done (noticeLayout s)) ∧
      (noticeLayout s).length = 12 + 5 * s.notices.length) ∧
    (∀ h r (n1 n0 : Byte), s.Live h r → MayLookup s c r →
      (728 < u16 n1 n0 →
        exec (.readNode (clientByte c) [byteOf h.val, n1, n0]) s = .next (s.refuses c 0x25 3 1 [.badValue])) ∧
      (u16 n1 n0 ≤ 728 → r.bank = none →
        exec (.readNode (clientByte c) [byteOf h.val, n1, n0]) s = .next (s.refuses c 0x25 3 4 [.noGrid])) ∧
      (∀ b, u16 n1 n0 ≤ 728 → r.bank = some b →
        exec (.readNode (clientByte c) [byteOf h.val, n1, n0]) s =
          .next (s.answers 0x25 3 .done (encTriple (s.banks[b].read (u16 n1 n0))))))) ∧
  ∀ s : State,
    let two (v : Nat) : List Byte := [byteOf (v / 256), byteOf v]
    let flag (b : Bool) : Byte := if b then 1 else 0
    let number {n : Nat} (o : Option (Fin n)) : Byte := match o with | none => 0xFF | some k => byteOf k.val
    (poolLayout s = byteOf s.freeBanks :: ((List.finRange 24).flatMap (bankLayout s) ++
      (List.finRange 4).flatMap fun k => contextLayout s.contexts[k])) ∧
    (∀ b : BankId, ∃ (holder : Option Handle) (staging : Option ContextId) (mask : Byte),
      bankLayout s b = [number holder, flag holder.isSome, number staging, mask] ∧
      (∀ h, holder = some h → ∃ r, s.Live h r ∧ r.bank = some b) ∧
      (holder = none → ∀ h r, s.Live h r → r.bank ≠ some b) ∧
      (∀ k, staging = some k → s.contexts[k].bank? = some b) ∧
      (staging = none → ∀ k : ContextId, s.contexts[k].bank? ≠ some b) ∧
      (mask.getLsbD 0 = true ↔ s.lanes[0].displayRef = some b) ∧ (mask.getLsbD 1 = true ↔ s.lanes[0].paperRef = some b) ∧
      (mask.getLsbD 2 = true ↔ s.lanes[1].displayRef = some b) ∧ (mask.getLsbD 3 = true ↔ s.lanes[1].paperRef = some b) ∧
      mask.toNat < 16) ∧
    (∀ k : ContextId, contextLayout s.contexts[k] = match s.contexts[k] with
      | .idle => [0, 0xFF, 0xFF, 0, 0, 0, 0]
      | .loading h b coverage timer =>
        [1, byteOf h.val, byteOf b.val] ++ two ((List.range 729).countP fun n => coverage.getLsbD n) ++ two timer
      | .checking h b _ _ _ => [2, byteOf h.val, byteOf b.val] ++ two 729 ++ [0, 0]) ∧
    (∀ l : LaneId,
      let x := s.lanes[l]
      laneLayout x =
        [flag (x.signal ≠ .noSignal), number (x.binding.map (·.display)), number (x.binding.bind (·.paper))] ++
          (match x.pendingBinding with
            | .absent => [0, 0xFF, 0xFF] | .unbind => [1, 0xFF, 0xFF]
            | .bind b => [2, byteOf b.display.val, number b.paper]) ++
          [match x.policy with | .keep => 0 | .fallback => 1,
            match x.mode with | .pass => 0 | .proof => 1 | .fallback => 2 | .measuring => 3,
            number x.displayRef, number x.paperRef, match x.measuring with | none => 0xFF | some m => byteOf m,
            x.pending, x.enabled]) ∧
    (∀ n : SlotId,
      let p := s.slots[n]
      let left (t : Nat) : Nat := (t + 9) / 10
      slotLayout s n =
        [number p.paper, flag (s.lineCondition n),
            match p.override with | .auto => 0 | .forceOn => 1 | .forceOff => 2] ++ two p.t1 ++ two p.t2 ++
          [match p.line with | .off => 0 | .arming _ => 1 | .on => 2 | .releasing _ => 3, flag (p.override ≠ .auto)] ++
          two (match p.line with | .off => 0 | .arming t => left t | .on => 0 | .releasing t => left t) ++
          [flag (s.pval n), p.pending, p.enabled]) ∧
    (∀ k : ChannelId,
      let x := s.channels[k]
      let f := x.correction
      channelLayout s k =
        [flag (4 ≤ k.val), number (s.attached k)] ++ enc16 f.gainL ++ enc16 f.offL ++ enc16 f.gainA ++ enc16 f.offA ++
          enc16 f.gainB ++ enc16 f.offB ++
          (match x.strip with
            | none => [0, 0, 0, 0, 0] | some st => [1, byteOf st.count, byteOf st.readings.length] ++ two st.timer) ++
          [encAbandon x.lastAbandon, x.pending, x.enabled] ++
          (stripReadings x.strip).flatMap fun rd => encTriple rd.lab ++ [flag rd.good])

/-- R15: SET_ACCESS replaces the two sets whole for a client with owner access, and refuses another; the frame: no
other field of the record and nothing else changes. -/
def Obligations.SetAccessReplacesBothSets : Prop :=
  ∀ (s : State) (c : ClientId) (h : Handle) (r : Record) (change lookup : Byte), s.Takes → s.Live h r →
    (MayOwn s c r →
      exec (.setAccess (clientByte c) [byteOf h.val, change, lookup]) s =
        .next { s.answers 0x13 3 .done [] with
          records := s.store h { r with change := change, lookup := lookup } }) ∧
    (¬ MayOwn s c r →
      exec (.setAccess (clientByte c) [byteOf h.val, change, lookup]) s =
        .next (s.refuses c 0x13 3 3 [.notPermitted]))

/-- R16 to R18, R22: RETIRE_RECORD refuses a record in use (`State.inUse`: an active paper, or named by a lane's binding,
pending binding or reference change not yet taken) or whose context is CHECKING, both causes together when both hold;
otherwise it abandons the load and enters RETIRING while a lane's reference holds the current bank, FREE with RETIRED
latched if none does. -/
def Obligations.RetireRecordFreesOrDrains : Prop :=
  (∀ (s : State) (h : Handle), s.inUse h = true ↔
    (∃ n : SlotId, s.slots[n].paper = some h) ∨
      ∃ l : LaneId, (∃ b, s.lanes[l].binding = some b ∧ (b.display = h ∨ b.paper = some h)) ∨
        (∃ b, s.lanes[l].pendingBinding = .bind b ∧ (b.display = h ∨ b.paper = some h)) ∨
        ∃ change ∈ s.lanes[l].changes, change.display = some h ∨ change.paper = some h) ∧
  ∀ (s : State) (c : ClientId) (h : Handle) (r : Record), s.Takes → s.Live h r → MayChange s c r →
    (s.inUse h = true → (∀ k : ContextId, s.contexts[k].record? = some h → s.contexts[k].isChecking = false) →
      exec (.retireRecord (clientByte c) [byteOf h.val]) s = .next (s.refuses c 0x14 1 4 [.inUse])) ∧
    (∀ k : ContextId, s.StagedOnlyAt h k → s.contexts[k].isChecking = true →
      exec (.retireRecord (clientByte c) [byteOf h.val]) s =
        .next (s.refuses c 0x14 1 4 (if s.inUse h then [.busy, .inUse] else [.busy]))) ∧
    (s.inUse h = false →
      (∀ k : ContextId, s.contexts[k].record? = some h → s.contexts[k].isChecking = false ∧ s.StagedOnlyAt h k) →
      let contexts := s.contexts.map fun x => if x.record? = some h then Context.idle else x
      let read (b : BankId) : Prop := ∃ l : LaneId, s.lanes[l].displayRef = some b ∨ s.lanes[l].paperRef = some b
      ((∃ b, r.bank = some b ∧ read b) →
        ∃ b, r.bank = some b ∧
          exec (.retireRecord (clientByte c) [byteOf h.val]) s =
            .next { s.answers 0x14 1 .done [0x02] with
              contexts := contexts
              records := s.records.set h ⟨.retiring r.key b, s.records[h].pending, s.records[h].enabled⟩ }) ∧
      ((∀ b, r.bank = some b → ¬ read b) →
        exec (.retireRecord (clientByte c) [byteOf h.val]) s =
          .next { s.answers 0x14 1 .done [0x00] with
            contexts := contexts
            records := s.records.set h ⟨.free, s.records[h].pending ||| 0x20, s.records[h].enabled⟩ }))

/-! ## The Grid Pool -/

/-- R27: a bank is free exactly when no record, no staging context and no lane reference holds it, and the free and
the held banks are 24 together. -/
def Obligations.BankIsFreeWhenUnheld : Prop :=
  ∀ s : State,
    (∀ b : BankId, s.bankFree b = true ↔
      (∀ h r, s.Live h r → r.bank ≠ some b) ∧ (∀ c : ContextId, s.contexts[c].bank? ≠ some b) ∧
        ∀ l : LaneId, s.lanes[l].displayRef ≠ some b ∧ s.lanes[l].paperRef ≠ some b) ∧
    s.freeBanks + (List.finRange 24).countP (fun b => !s.bankFree b) = 24

/-- R34, R35, R29: BEGIN_GRID takes the lowest free bank and the lowest IDLE context and zeroes the bank; every cause
of group 4 that holds is reported. -/
def Obligations.BeginGridTakesBankAndContext : Prop :=
  ∀ (s : State) (c : ClientId) (h : Handle) (r : Record), s.Takes → s.Live h r → MayChange s c r →
    let staged := ∃ k : ContextId, s.contexts[k].record? = some h
    let noBank := ∀ b, s.bankFree b = false
    let noContext := ∀ k : ContextId, s.contexts[k] ≠ .idle
    (∀ (b : BankId) (k : ContextId), ¬ staged →
      s.bankFree b = true → (∀ a, a < b → s.bankFree a = false) →
      s.contexts[k] = .idle → (∀ j : ContextId, j < k → s.contexts[j] ≠ .idle) →
      ∃ nodes : Nodes, (∀ n, nodes.read n = ⟨0, 0, 0⟩) ∧
        exec (.beginGrid (clientByte c) [byteOf h.val]) s =
          .next { s.answers 0x20 1 .done [byteOf k.val, byteOf b.val] with
            banks := s.banks.set b nodes
            contexts := s.contexts.set k (.loading h b 0 5000) }) ∧
    (staged ∨ noBank ∨ noContext →
      ∃ causes, exec (.beginGrid (clientByte c) [byteOf h.val]) s = .next (s.refuses c 0x20 1 4 causes) ∧
        (.busy ∈ causes ↔ staged) ∧ (.poolEmpty ∈ causes ↔ noBank) ∧ (.noStaging ∈ causes ↔ noContext) ∧
        ∀ x ∈ causes, x = .busy ∨ x = .poolEmpty ∨ x = .noStaging)

/-- R36, R37, R26: a GRID_CHUNK of 1 to 27 values in range writes them at the nodes first, first + 1, …, covers their
indices, restarts the 5 s and answers the new coverage; no other node, bank, context or field changes. A count, a node
or a value out of range is BAD_VALUE; without change access, a staging context or with a CHECKING one it is refused.
The premise on the bank is the invariant BanksStayCanonical. -/
def Obligations.GridChunkWritesOrIsRefused : Prop :=
  ∀ (s : State) (c : ClientId) (h : Handle) (r : Record) (n1 n0 count : Byte) (rest : List Byte), s.Takes →
    s.Live h r → rest.length = 6 * count.toNat → rest.length ≤ 196 →
    let frame := Instr.gridChunk (clientByte c) (byteOf h.val :: n1 :: n0 :: count :: rest)
    let first := u16 n1 n0
    let values := triplesOf (nodeForm r.kind) rest
    let sound := 1 ≤ count.toNat ∧ count.toNat ≤ 27 ∧ first + count.toNat ≤ 729 ∧
      ∀ t ∈ values, nodeInRange r.kind t = true
    (¬ sound → exec frame s = .next (s.refuses c 0x21 (4 + rest.length) 1 [.badValue])) ∧
    (sound → ¬ MayChange s c r → exec frame s = .next (s.refuses c 0x21 (4 + rest.length) 3 [.notPermitted])) ∧
    (sound → MayChange s c r → (∀ k : ContextId, s.contexts[k].record? ≠ some h) →
      exec frame s = .next (s.refuses c 0x21 (4 + rest.length) 4 [.notStaging])) ∧
    (sound → MayChange s c r → ∀ k : ContextId, s.StagedOnlyAt h k →
      (s.contexts[k].isChecking = true →
        exec frame s = .next (s.refuses c 0x21 (4 + rest.length) 4 [.busy])) ∧
      (∀ b coverage timer, s.contexts[k] = .loading h b coverage timer → s.banks[b].wf = true →
        ∃ (nodes : Nodes) (covered : Coverage),
          exec frame s = .next { s.answers 0x21 (4 + rest.length) .done
              (enc16 ((List.range 729).countP fun n => covered.getLsbD n)) with
            banks := s.banks.set b nodes
            contexts := s.contexts.set k (.loading h b covered 5000) } ∧
          (∀ n, first ≤ n → n < first + count.toNat → values[n - first]? = some (nodes.read n)) ∧
          (∀ n, n < first ∨ first + count.toNat ≤ n → nodes.read n = s.banks[b].read n) ∧
          (∀ n, n < 729 → covered.getLsbD n =
            (coverage.getLsbD n || (first ≤ n && n < first + count.toNat)))))

/-- R41: COMMIT_GRID makes a fully covered LOADING context CHECKING with the response PENDING (3 ms is the bound of
log 19); NOT_STAGING, BUSY or INCOMPLETE refuses it. R38: ABANDON_GRID returns a LOADING context to
IDLE and changes nothing else; the bank's holder is the context, so the bank is freed with it. R39: the expiry of a
LOADING context does the same, latches STAGING_EXPIRED and adds the handle to the expired set; in IDLE and CHECKING the
timer is stopped and there is no such event (log 5). -/
def Obligations.CommitAbandonAndExpiryEndALoad : Prop :=
  (∀ (s : State) (c : ClientId) (h : Handle) (r : Record), s.Takes → s.Live h r → MayChange s c r →
    (∀ (k : ContextId) (b : BankId) (timer : Nat), s.StagedOnlyAt h k →
      s.contexts[k] = .loading h b (BitVec.allOnes 729) timer →
      exec (.commitGrid (clientByte c) [byteOf h.val]) s =
        .next { s with
          sdo := fill 6, response := .pending
          contexts := s.contexts.set k (.checking h b 3 c s.clients[c].strict) }) ∧
    (∀ (k : ContextId) (b : BankId) (timer : Nat) (coverage : Coverage), s.StagedOnlyAt h k →
      s.contexts[k] = .loading h b coverage timer → (∃ n, n < 729 ∧ coverage.getLsbD n = false) →
      exec (.commitGrid (clientByte c) [byteOf h.val]) s = .next (s.refuses c 0x22 1 4 [.incomplete])) ∧
    (∀ k : ContextId, s.StagedOnlyAt h k → s.contexts[k].isChecking = true →
      exec (.commitGrid (clientByte c) [byteOf h.val]) s = .next (s.refuses c 0x22 1 4 [.busy])) ∧
    ((∀ k : ContextId, s.contexts[k].record? ≠ some h) →
      exec (.commitGrid (clientByte c) [byteOf h.val]) s = .next (s.refuses c 0x22 1 4 [.notStaging])) ∧
    (∀ (k : ContextId) (b : BankId) (coverage : Coverage) (timer : Nat), s.StagedOnlyAt h k →
      s.contexts[k] = .loading h b coverage timer →
      exec (.abandonGrid (clientByte c) [byteOf h.val]) s =
        .next { s.answers 0x23 1 .done [] with contexts := s.contexts.set k .idle }) ∧
    (∀ k : ContextId, s.StagedOnlyAt h k → s.contexts[k].isChecking = true →
      exec (.abandonGrid (clientByte c) [byteOf h.val]) s = .next (s.refuses c 0x23 1 4 [.busy])) ∧
    ((∀ k : ContextId, s.contexts[k].record? ≠ some h) →
      exec (.abandonGrid (clientByte c) [byteOf h.val]) s = .next (s.refuses c 0x23 1 4 [.notStaging]))) ∧
  ∀ (s : State) (k : ContextId), s.procedure = none →
    (∀ h b coverage timer, s.contexts[k] = .loading h b coverage timer →
      exec (.stagingExpiry k) s = .next { s with
        contexts := s.contexts.set k .idle
        global := { s.global with
          pending := s.global.pending ||| 0x02, expired := s.global.expired ||| handleBit h } }) ∧
    (s.contexts[k] = .idle ∨ s.contexts[k].isChecking = true → exec (.stagingExpiry k) s = .next s)

/-- R42 to R45, R180: the check of the one CHECKING context completes. It fails at the lowest step whose value is below
the one before: the context is LOADING again with full coverage and a fresh 5 s. It passes otherwise: the bank is the
record's, the record is UNVERIFIED with a zero trim and cleared streaks, window and whites, and the open strips on it
are abandoned; a slot whose active paper it is loses its condition (LineMachineFollowsTheTable). -/
def Obligations.CheckCompletesEitherWay : Prop :=
  ∀ (s : State) (k : ContextId) (h : Handle) (b : BankId) (timer : Nat) (c : ClientId) (strict : Bool) (r : Record),
    s.procedure = none → s.contexts[k] = .checking h b timer c strict →
    (∀ j : ContextId, s.contexts[j].isChecking = true → j = k) → s.Live h r →
    let node (n : Nat) : Triple := match r.kind with
      | .paper => s.banks[b].read (n * 91)
      | .display => s.banks[b].read (n * 81 + 40)
    let falls (n : Nat) : Byte := match r.kind with
      | .paper => if (node n).x < (node (n - 1)).x then 1 else 0
      | .display => (if (node n).x < (node (n - 1)).x then 1 else 0) |||
          (if (node n).y < (node (n - 1)).y then 2 else 0) ||| (if (node n).z < (node (n - 1)).z then 4 else 0)
    (∀ n, 1 ≤ n → n ≤ 8 → falls n ≠ 0 → (∀ m, 1 ≤ m → m < n → falls m = 0) →
      exec .checkCompletes s = .next { s with
        contexts := s.contexts.set k (.loading h b (BitVec.allOnes 729) 5000)
        response := .ready ⟨0x22, .refused, 4, [.gridCheck],
          [byteOf n, match r.kind with | .paper => 0 | .display => falls n]⟩
        global := if strict then
            { s.global with pending := s.global.pending ||| 0x10, faultSet := s.global.faultSet ||| clientBit c }
          else s.global }) ∧
    ((∀ n, 1 ≤ n → n ≤ 8 → falls n = 0) →
      exec .checkCompletes s = .next { s with
        contexts := s.contexts.set k .idle
        records := s.records.set h ⟨.live
          { r with
            data := match r.data with
              | .paper f => .paper { f with trim := ⟨0, 0, 0, 0⟩, whiteCandidate := none, measuredWhite := none }
              | .display => .display
            bank := some b, state := .unverified
            passStreak := 0, failStreak := 0, windowStrips := 0, windowFailing := 0 },
          s.records[h].pending ||| (if r.state = .unverified then 0 else 0x01), s.records[h].enabled⟩
        channels := s.channelsChanged h
        slots := s.slotsAfter h false
        response := .ready ⟨0x22, .done, 0, [], [byteOf b.val]⟩ })

/-- R31, R30, R21, R22: the Grid Pool takes a lane's oldest reference change: the references become the named records'
current banks as they stand, and a RETIRING record whose draining bank no lane holds any more enters FREE with
RETIRED latched. -/
def Obligations.ReferenceChangeTakesCurrentBanks : Prop :=
  ∀ (s : State) (l : LaneId) (change : RefChange) (rest : List RefChange), s.procedure = none →
    s.lanes[l].changes = change :: rest →
    ∃ records : Vector RecordSlot 48,
      exec (.referenceChange l) s = .next { s with
        lanes := s.lanes.set l { s.lanes[l] with
          displayRef := change.display.bind s.bankOf, paperRef := change.paper.bind s.bankOf, changes := rest }
        records := records } ∧
      ∀ h : Handle, match s.records[h].content with
        | .retiring _ b =>
          records[h] =
            if change.display.bind s.bankOf = some b ∨ change.paper.bind s.bankOf = some b ∨
                (∃ k : LaneId, k ≠ l ∧ (s.lanes[k].displayRef = some b ∨ s.lanes[k].paperRef = some b)) then
              s.records[h]
            else ⟨.free, s.records[h].pending ||| 0x20, s.records[h].enabled⟩
        | _ => records[h] = s.records[h]

/-! ## Colour Arithmetic -/

/-- R53, R54, R64 and the Conventions: the deviation is |L1 - L2| + |a1 - a2| + |b1 - b2|; rounding is to the nearest integer, ties away from zero, symmetric; a zero gain
changes nothing; a clamp moves a value outside its range to the nearer limit and no other; the deviation is symmetric,
0 exactly for equal triples, and at most 61198 for triples in range; R63: a corrected reading has each component's gain
and offset applied and is clamped, and a zero correction keeps a triple in range. -/
def Obligations.ArithmeticRoundsAndClamps : Prop :=
  (∀ n d : Int, 0 < d →
    2 * |n - d * roundDiv n d| ≤ d ∧ (2 * |n - d * roundDiv n d| = d → |n| < |d * roundDiv n d|) ∧
      roundDiv (-n) d = -roundDiv n d) ∧
  (∀ g v : Int, applyGain g v = roundDiv (v * (8192 + g)) 8192 ∧ applyGain 0 v = v) ∧
  (∀ lo hi v : Int, lo ≤ hi →
    (v < lo → clampTo lo hi v = lo) ∧ (hi < v → clampTo lo hi v = hi) ∧
      (lo ≤ v → v ≤ hi → clampTo lo hi v = v)) ∧
  (∀ a b : Triple, deviation a b = deviation b a ∧ (deviation a b = 0 ↔ a = b) ∧
    (labInRange a = true → labInRange b = true → deviation a b ≤ 61198) ∧
    (deviation a b : Int) = |a.x - b.x| + |a.y - b.y| + |a.z - b.z|) ∧
  (∀ (c : Correction) (t : Triple),
    headCorrect c t =
      ⟨clampTo 0 10000 (roundDiv (t.x * (8192 + c.gainL)) 8192 + c.offL),
       clampTo (-12800) 12799 (roundDiv (t.y * (8192 + c.gainA)) 8192 + c.offA),
       clampTo (-12800) 12799 (roundDiv (t.z * (8192 + c.gainB)) 8192 + c.offB)⟩ ∧
    labInRange (headCorrect c t) = true ∧
    (c = ⟨0, 0, 0, 0, 0, 0⟩ → labInRange t = true → headCorrect c t = t))

/-- R55 to R57: a grid lookup of an input in range. On each axis the coordinate u and the cell width w of R55 give the
cell and the fraction of R56. Each component of the result is the sum over the eight corners of weight times the node's
component, divided by the cell volume and rounded. The weights add up to the volume, so the component lies between the
smallest and the largest of the corners; where every fraction is 0 the result is the lower corner node. -/
def Obligations.LookupIsAWeightedMean : Prop :=
  ∀ (kind : Kind) (ns : Nodes) (t : Triple),
    (match kind with | .paper => deviceInRange t | .display => labInRange t) = true →
    let u : Nat × Nat × Nat := match kind with
      | .paper => (t.x.toNat, t.y.toNat, t.z.toNat)
      | .display => (t.x.toNat, (t.y + 12800).toNat, (t.z + 12800).toNat)
    let w : Nat × Nat × Nat := match kind with | .paper => (128, 128, 128) | .display => (1250, 3200, 3200)
    let cell (u w : Nat) : Nat := if u / w = 8 then 7 else u / w
    let frac (u w : Nat) : Nat := u - w * cell u w
    let side (u w : Nat) (upper : Bool) : Nat := if upper then frac u w else w - frac u w
    let weight (c : Bool × Bool × Bool) : Nat := side u.1 w.1 c.1 * side u.2.1 w.2.1 c.2.1 * side u.2.2 w.2.2 c.2.2
    let node (c : Bool × Bool × Bool) : Triple := ns.read
      ((cell u.1 w.1 + c.1.toNat) * 81 + (cell u.2.1 w.2.1 + c.2.1.toNat) * 9 + (cell u.2.2 w.2.2 + c.2.2.toNat))
    let sides : List Bool := [false, true]
    let eight : List (Bool × Bool × Bool) := sides.flatMap fun a => sides.flatMap fun b => sides.map fun c => (a, b, c)
    let volume : Nat := w.1 * w.2.1 * w.2.2
    let mean (component : Triple → Int) : Int :=
      roundDiv ((eight.map fun c => (weight c : Int) * component (node c)).sum) volume
    let between (component : Triple → Int) : Prop := ∀ lo hi : Int,
      (∀ c ∈ eight, lo ≤ component (node c) ∧ component (node c) ≤ hi) →
      lo ≤ component (lookupGrid kind ns t) ∧ component (lookupGrid kind ns t) ≤ hi
    lookupGrid kind ns t = ⟨mean (·.x), mean (·.y), mean (·.z)⟩ ∧
    (eight.map weight).sum = volume ∧
    volume = (match kind with | .paper => 2097152 | .display => 12800000000) ∧
    between (·.x) ∧ between (·.y) ∧ between (·.z) ∧
    (frac u.1 w.1 = 0 → frac u.2.1 w.2.1 = 0 → frac u.2.2 w.2.2 = 0 →
      lookupGrid kind ns t = node (false, false, false))

/-- R59, R60, R53: the paper transform is the lookup, then the trim, then the clamp with its flags; the render
transform the lookup and the clamp, which leaves a lookup of device nodes as it is; the proof transform the two in a
chain. R65 to R67: TRANSLATE in its three modes: an input in range, or clamped for a lenient client, gives the transform
through the current grids and the trim; a strict client's input out of range is refused; no state changes. -/
def Obligations.TranslateAnswersTheTransform : Prop :=
  (∀ before after : Triple, clampFlags before after =
    (if before.x = after.x then 0 else 1) ||| (if before.y = after.y then 0 else 2) |||
      (if before.z = after.z then 0 else 4)) ∧
  (∀ t : Triple,
    clampLab t = ⟨clampTo 0 10000 t.x, clampTo (-12800) 12799 t.y, clampTo (-12800) 12799 t.z⟩ ∧
    clampDevice t = ⟨clampTo 0 1023 t.x, clampTo 0 1023 t.y, clampTo 0 1023 t.z⟩) ∧
  (∀ (ns : Nodes) (trim : Trim) (t : Triple),
    let raw := lookupGrid .paper ns t
    let moved : Triple :=
      ⟨roundDiv (raw.x * (8192 + trim.gainL)) 8192 + trim.offL, raw.y + trim.offA, raw.z + trim.offB⟩
    paperTransform ns trim t = (clampLab moved, clampFlags moved (clampLab moved))) ∧
  (∀ (ns : Nodes) (t : Triple), renderTransform ns t = clampDevice (lookupGrid .display ns t) ∧
    (labInRange t = true → (∀ n, deviceInRange (ns.read n) = true) →
      renderTransform ns t = lookupGrid .display ns t)) ∧
  (∀ (paper display : Nodes) (trim : Trim) (t : Triple), proofTransform paper trim display t =
    ((paperTransform paper trim t).1, (paperTransform paper trim t).2,
      renderTransform display (paperTransform paper trim t).1)) ∧
  ∀ (s : State) (c : ClientId) (a1 a0 b1 b0 c1 c0 : Byte), s.Takes →
    let device := deviceOf a1 a0 b1 b0 c1 c0
    let lab := labOf a1 a0 b1 b0 c1 c0
    let outcome (ok : Bool) : OutcomeCode := if ok then .done else .doneAdjusted
    (∀ (h : Handle) (r : Record) (f : PaperFields), s.Live h r → r.data = .paper f → MayLookup s c r →
      let frame := Instr.translate (clientByte c) [1, byteOf h.val, a1, a0, b1, b0, c1, c0]
      (deviceInRange device = false → s.clients[c].strict = true →
        exec frame s = .next (s.refuses c 0x30 8 1 [.badValue])) ∧
      (deviceInRange device = true ∨ s.clients[c].strict = false →
        (r.bank = none → exec frame s = .next (s.refuses c 0x30 8 4 [.noGrid])) ∧
        (∀ b, r.bank = some b →
          let out := paperTransform s.banks[b] f.trim (clampDevice device)
          exec frame s = .next (s.answers 0x30 8 (outcome (deviceInRange device))
            (clampFlags device (clampDevice device) :: encTriple out.1 ++ [out.2]))))) ∧
    (∀ (h : Handle) (r : Record), s.Live h r → r.data = .display → MayLookup s c r →
      let frame := Instr.translate (clientByte c) [2, byteOf h.val, a1, a0, b1, b0, c1, c0]
      (labInRange lab = false → s.clients[c].strict = true →
        exec frame s = .next (s.refuses c 0x30 8 1 [.badValue])) ∧
      (labInRange lab = true ∨ s.clients[c].strict = false →
        (r.bank = none → exec frame s = .next (s.refuses c 0x30 8 4 [.noGrid])) ∧
        (∀ b, r.bank = some b →
          exec frame s = .next (s.answers 0x30 8 (outcome (labInRange lab))
            (clampFlags lab (clampLab lab) :: encTriple (renderTransform s.banks[b] (clampLab lab))))))) ∧
    (∀ (g h : Handle) (p d : Record) (f : PaperFields), s.Live g p → p.data = .paper f → s.Live h d →
      d.data = .display → MayLookup s c p → MayLookup s c d →
      let frame := Instr.translate (clientByte c) [3, byteOf g.val, byteOf h.val, a1, a0, b1, b0, c1, c0]
      (deviceInRange device = false → s.clients[c].strict = true →
        exec frame s = .next (s.refuses c 0x30 9 1 [.badValue])) ∧
      (deviceInRange device = true ∨ s.clients[c].strict = false →
        (p.bank = none ∨ d.bank = none → exec frame s = .next (s.refuses c 0x30 9 4 [.noGrid])) ∧
        (∀ bp bd, p.bank = some bp → d.bank = some bd →
          let out := proofTransform s.banks[bp] f.trim s.banks[bd] (clampDevice device)
          exec frame s = .next (s.answers 0x30 9 (outcome (deviceInRange device))
            (clampFlags device (clampDevice device) :: encTriple out.1 ++ [out.2.1] ++ encTriple out.2.2)))))

/-- R61, R62: SET_TRIM stores the four values, clamped for a lenient client, and abandons the open strip on a channel
attached to the record; a DISPLAY record is WRONG_KIND; a strict client's value out of range is refused. -/
def Obligations.SetTrimStoresTheTrim : Prop :=
  ∀ (s : State) (c : ClientId) (h : Handle) (r : Record) (g1 g0 l1 l0 a1 a0 b1 b0 : Byte), s.Takes → s.Live h r →
    let sent : Trim := ⟨s16 g1 g0, s16 l1 l0, s16 a1 a0, s16 b1 b0⟩
    let ok : Bool := inRange (-4096) 4095 sent.gainL && inRange (-500) 500 sent.offL &&
      inRange (-500) 500 sent.offA && inRange (-500) 500 sent.offB
    let kept : Trim := ⟨clampTo (-4096) 4095 sent.gainL, clampTo (-500) 500 sent.offL,
      clampTo (-500) 500 sent.offA, clampTo (-500) 500 sent.offB⟩
    let frame := Instr.setTrim (clientByte c) [byteOf h.val, g1, g0, l1, l0, a1, a0, b1, b0]
    (ok = false → s.clients[c].strict = true → exec frame s = .next (s.refuses c 0x31 9 1 [.badValue])) ∧
    (ok = true ∨ s.clients[c].strict = false →
      (r.data = .display → exec frame s = .next (s.refuses c 0x31 9 2 [.wrongKind])) ∧
      (∀ f, r.data = .paper f → MayChange s c r →
        exec frame s = .next { s.answers 0x31 9 (if ok then .done else .doneAdjusted) (encTrim kept) with
          records := s.store h { r with data := .paper { f with trim := kept } }
          channels := s.channelsChanged h }))

/-! ## Video lanes -/

/-- R74 to R76: BIND_LANE, with or without a paper record, and UNBIND_LANE: pending in ACTIVE, applied at once with
BINDING_APPLIED in NO_SIGNAL; a display record that the other lane names as display, in its binding or its pending
binding (`Lane.namesDisplay`), is IN_USE. R77: SET_LANE_POLICY
replaces the stale policy and changes nothing else of the lane, or is refused. -/
def Obligations.LaneRequestsBindUnbindAndSetPolicy : Prop :=
  (∀ (x : Lane) (d : Handle), x.namesDisplay d = true ↔
    (∃ b, x.binding = some b ∧ b.display = d) ∨ ∃ b, x.pendingBinding = .bind b ∧ b.display = d) ∧
  (∀ (s : State) (c : ClientId) (l : LaneId), s.Takes → IsAdmin s c →
    let applied (kind : Byte) (n : Nat) (binding : Option Binding) : State :=
      { s.answers kind n .done [0x01] with
        lanes := s.lanes.set l { s.lanes[l] with
          binding := binding, pendingBinding := .absent, pending := s.lanes[l].pending ||| 0x04 } }
    let waiting (kind : Byte) (n : Nat) (p : PendingBinding) : State :=
      { s.answers kind n .done [0x00] with lanes := s.lanes.set l { s.lanes[l] with pendingBinding := p } }
    (∀ (d : Handle) (rd : Record) (paper : Option (Handle × Record)), s.Live d rd → rd.data = .display →
      rd.bank.isSome → (∀ q, paper = some q → s.Live q.1 q.2 ∧ q.2.kind = .paper ∧ q.2.bank.isSome) →
      let body := [byteOf l.val, byteOf d.val] ++ (paper.map fun q => byteOf q.1.val).toList
      let binding : Binding := ⟨d, paper.map (·.1)⟩
      ((∃ k : LaneId, k ≠ l ∧ s.lanes[k].namesDisplay d = true) →
        exec (.bindLane (clientByte c) body) s = .next (s.refuses c 0x40 body.length 4 [.inUse])) ∧
      ((∀ k : LaneId, k ≠ l → s.lanes[k].namesDisplay d = false) →
        (s.lanes[l].signal = .noSignal →
          exec (.bindLane (clientByte c) body) s = .next (applied 0x40 body.length (some binding))) ∧
        (s.lanes[l].signal ≠ .noSignal →
          exec (.bindLane (clientByte c) body) s = .next (waiting 0x40 body.length (.bind binding))))) ∧
    (s.lanes[l].signal = .noSignal →
      exec (.unbindLane (clientByte c) [byteOf l.val]) s = .next (applied 0x41 1 none)) ∧
    (s.lanes[l].signal ≠ .noSignal →
      exec (.unbindLane (clientByte c) [byteOf l.val]) s = .next (waiting 0x41 1 .unbind))) ∧
  ∀ (s : State) (c : ClientId) (lane code : Byte), s.Takes →
    (1 < code.toNat →
      exec (.setLanePolicy (clientByte c) [lane, code]) s = .next (s.refuses c 0x42 2 1 [.badValue])) ∧
    (code.toNat ≤ 1 → 1 < lane.toNat →
      exec (.setLanePolicy (clientByte c) [lane, code]) s = .next (s.refuses c 0x42 2 2 [.noSuchUnit])) ∧
    (code.toNat ≤ 1 → lane.toNat ≤ 1 → ¬ IsAdmin s c →
      exec (.setLanePolicy (clientByte c) [lane, code]) s = .next (s.refuses c 0x42 2 3 [.notAdmin])) ∧
    (∀ l : LaneId, code.toNat ≤ 1 → lane = byteOf l.val → IsAdmin s c →
      exec (.setLanePolicy (clientByte c) [lane, code]) s =
        .next { s.answers 0x42 2 .done [] with
          lanes := s.lanes.set l { s.lanes[l] with policy := if code = 0 then .keep else .fallback } })

/-- R70, R78 to R81, R84, R52: a frame start: the signal and its timer, the binding taken up with the probe strip
abandoned when the display record changes, the mode of R79 (`State.outOfMatch`: the bound record is UNVERIFIED or LOST),
the measuring index, the trim and the patch of the frame, the reference change handed over, and the three lane
indications; no other lane, channel or block changes. R69, R82 to R84: the lane's output, as log 17 (DESIGN CHOICE) has it
as a function of the state: the data enable and the frame start pass, a word outside the data enable passes, and a pixel
passes in PASS and FALLBACK, goes through the proof transform of the frame's references and trim in PROOF, and becomes the
rendered patch in MEASURING; no pixel reaches the transform before the frame's reference change is taken (R81). -/
def Obligations.FrameStartRunsItsStages : Prop :=
  (∀ (s : State) (h : Handle) (r : Record), s.Live h r →
    (s.outOfMatch h = true ↔ r.state = .unverified ∨ r.state = .lost)) ∧
  (∀ (s : State) (l : LaneId) (v : VideoSignals),
    let x := s.lanes[l]
    let shows (t : Triple) : Prop := ∃ word : PixelWord, s.videoOut l v = some { v with word := word } ∧
      (word.r.toNat : Int) = t.x ∧ (word.g.toNat : Int) = t.y ∧ (word.b.toNat : Int) = t.z
    (v.dataEnable = false → s.videoOut l v = some v) ∧
    (v.dataEnable = true →
      (x.mode = .pass ∨ x.mode = .fallback → s.videoOut l v = some v) ∧
      (x.mode = .proof → x.changes = [] →
        ∀ d p trim, x.displayRef = some d → x.paperRef = some p → x.frameTrim = some trim →
          shows (proofTransform s.banks[p] trim s.banks[d] ⟨v.word.r.toNat, v.word.g.toNat, v.word.b.toNat⟩).2.2) ∧
      (x.mode = .measuring → x.changes = [] →
        ∀ d patch, x.displayRef = some d → x.framePatch = some patch → shows (renderTransform s.banks[d] patch)) ∧
      (x.mode = .proof ∨ x.mode = .measuring → x.changes ≠ [] → s.videoOut l v = none))) ∧
  ∀ (s : State) (l : LaneId), s.procedure = none →
    let x := s.lanes[l]
    let ch := s.channels[probeOf l]
    let bound : Option Binding := match x.pendingBinding with
      | .absent => x.binding | .unbind => none | .bind b => some b
    let moved : Bool := bound.map (·.display) ≠ x.binding.map (·.display)
    let strip : Option Strip := if moved then none else ch.strip
    let mode : Mode := match strip, bound with
      | some _, _ => .measuring
      | none, some ⟨d, some p⟩ =>
        if x.policy = .fallback ∧ (s.outOfMatch d || s.outOfMatch p) then .fallback else .proof
      | none, _ => .pass
    let index : Option Nat := strip.map fun st => min st.readings.length (st.count - 1)
    exec (.frameStart l) s = .next { s with
      lanes := s.lanes.set l { x with
        signal := .active 100
        binding := bound
        pendingBinding := .absent
        mode := mode
        measuring := index
        framePatch := index.bind fun m => (bound.bind fun b => s.record? b.display).bind fun r => r.patches[m]?
        frameTrim := if mode = .proof then ((bound.bind (·.paper)).bind s.record?).map (·.trim) else none
        changes := x.changes ++ [match mode with
          | .proof => ⟨bound.map (·.display), bound.bind (·.paper)⟩
          | .measuring => ⟨bound.map (·.display), none⟩
          | .pass => ⟨none, none⟩
          | .fallback => ⟨none, none⟩]
        pending := x.pending ||| (if x.signal = .noSignal then 0x01 else 0) |||
          (if x.pendingBinding = .absent then 0 else 0x04) |||
          (if x.mode = .fallback ↔ mode = .fallback then 0 else 0x02) }
      channels := if moved ∧ ch.strip.isSome then
          s.channels.set (probeOf l)
            { ch with strip := none, lastAbandon := some .changed, pending := ch.pending ||| 0x04 }
        else s.channels }

/-- R71, R32, R81, R21, R22: the loss of a lane's signal; a RETIRING record whose draining bank no lane holds any more
enters FREE with RETIRED. In NO_SIGNAL the timer is stopped and there is no such event (log 5). -/
def Obligations.SignalLossStopsTheLane : Prop :=
  ∀ (s : State) (l : LaneId), s.procedure = none →
    let x := s.lanes[l]
    let ch := s.channels[probeOf l]
    (x.signal = .noSignal → exec (.signalLoss l) s = .next s) ∧
    (x.signal ≠ .noSignal → ∃ records : Vector RecordSlot 48,
      exec (.signalLoss l) s = .next { s with
        lanes := s.lanes.set l { x with
          signal := .noSignal, mode := .pass, displayRef := none, paperRef := none, measuring := none
          frameTrim := none, framePatch := none, changes := []
          pending := x.pending ||| 0x01 ||| (if x.mode = .fallback then 0x02 else 0) }
        channels := if ch.strip.isSome then
            s.channels.set (probeOf l)
              { ch with strip := none, lastAbandon := some .noSignal, pending := ch.pending ||| 0x04 }
          else s.channels
        records := records } ∧
      ∀ h : Handle, match s.records[h].content with
        | .retiring _ b =>
          records[h] =
            if ∃ k : LaneId, k ≠ l ∧ (s.lanes[k].displayRef = some b ∨ s.lanes[k].paperRef = some b) then
              s.records[h]
            else ⟨.free, s.records[h].pending ||| 0x20, s.records[h].enabled⟩
        | _ => records[h] = s.records[h])

/-! ## Instruments -/

/-- R95, R96: SET_HEAD_CORRECTION replaces the six fields, clamped for a lenient client, and abandons an open strip of
the channel with CHANGED. -/
def Obligations.SetHeadCorrectionReplacesTheSix : Prop :=
  ∀ (s : State) (c : ClientId) (k : ChannelId) (g1 g0 o1 o0 h1 h0 p1 p0 i1 i0 q1 q0 : Byte), s.Takes →
    let sent : Correction := ⟨s16 g1 g0, s16 o1 o0, s16 h1 h0, s16 p1 p0, s16 i1 i0, s16 q1 q0⟩
    let gain := clampTo (-4096) 4095
    let offset := clampTo (-1000) 1000
    let kept : Correction := ⟨gain sent.gainL, offset sent.offL, gain sent.gainA, offset sent.offA, gain sent.gainB,
      offset sent.offB⟩
    let frame := Instr.setHeadCorrection (clientByte c)
      [byteOf k.val, g1, g0, o1, o0, h1, h0, p1, p0, i1, i0, q1, q0]
    let ch := s.channels[k]
    (sent ≠ kept → s.clients[c].strict = true → exec frame s = .next (s.refuses c 0x50 13 1 [.badValue])) ∧
    (sent = kept ∨ s.clients[c].strict = false →
      (¬ IsAdmin s c → exec frame s = .next (s.refuses c 0x50 13 3 [.notAdmin])) ∧
      (IsAdmin s c →
        exec frame s = .next { s.answers 0x50 13 (if sent = kept then .done else .doneAdjusted)
            (encCorrection kept) with
          channels := s.channels.set k
            (if ch.strip.isSome then
              { ch with
                correction := kept, strip := none, lastAbandon := some .changed, pending := ch.pending ||| 0x04 }
            else { ch with correction := kept }) }))

/-- R97, R98, R105: a STRIP_OPEN: an open strip is overrun; the first of the four conditions refuses the opening;
otherwise the strip is OPEN with its count, no readings and 2 s. The receiver is left HUNTING (log 8). -/
def Obligations.StripOpenOpensOrRefuses : Prop :=
  ∀ (s : State) (k : ChannelId) (count : Byte), s.procedure = none →
    let ch := s.channels[k]
    let cause : Option AbandonCause := match (s.attached k).bind s.record? with
      | none => some .noRecord
      | some r =>
        if r.bank = none ∨ r.patches = [] then some .notReady
        else if count.toNat ≠ r.patches.length then some .mismatch
        else if ∃ l : LaneId, k = probeOf l ∧ s.lanes[l].signal = .noSignal then some .noSignal
        else none
    exec (.stripOpen k count) s = .next { s with
      receiver := .hunting
      channels := s.channels.set k (match cause with
        | some x => { ch with strip := none, lastAbandon := some x, pending := ch.pending ||| 0x04 }
        | none =>
          if ch.strip.isSome then
            { ch with
              strip := some ⟨count.toNat, [], 2000⟩, lastAbandon := some .overrun, pending := ch.pending ||| 0x04 }
          else { ch with strip := some ⟨count.toNat, [], 2000⟩ }) }

/-- R92, R99, R100: a READING is appended, corrected, when its index is the number of readings held and fewer than the
declared count are held; otherwise the strip is abandoned with SEQUENCE; on an IDLE channel it is STRAY. -/
def Obligations.ReadingAppendsInSequence : Prop :=
  ∀ (s : State) (k : ChannelId) (index : Byte) (L a b : BitVec 16) (quality : Byte), s.procedure = none →
    let ch := s.channels[k]
    let lost (x : AbandonCause) : Channel :=
      { ch with strip := none, lastAbandon := some x, pending := ch.pending ||| 0x04 }
    exec (.reading k index L a b quality) s = .next { s with
      receiver := .hunting
      channels := s.channels.set k (match ch.strip with
        | none => lost .stray
        | some st =>
          if st.readings.length < st.count ∧ index.toNat = st.readings.length then
            { ch with strip := some ⟨st.count, st.readings ++
              [⟨index.toNat, headCorrect ch.correction ⟨L.toNat, a.toInt, b.toInt⟩, quality == 1⟩], 2000⟩ }
          else lost .sequence) }

/-- R100 to R103: a STRIP_CLOSE: STRAY, SHORT, void or evaluated. A void strip raises the strips-void counter alone; a
complete one that is not void takes the record through the seven stages (`evaluation`), and the slot of the record
re-evaluates its condition. The receiver is left HUNTING (log 8, DESIGN CHOICE). The stages are those of
EvaluationStagesFollowTheirTables. -/
def Obligations.StripCloseHandsOver : Prop :=
  ∀ (s : State) (k : ChannelId), s.procedure = none →
    let ch := s.channels[k]
    let lost (x : AbandonCause) : State := { s with
      receiver := .hunting
      channels := s.channels.set k { ch with strip := none, lastAbandon := some x, pending := ch.pending ||| 0x04 } }
    (ch.strip = none → exec (.stripClose k) s = .next (lost .stray)) ∧
    (∀ st, ch.strip = some st → st.readings.length < st.count → exec (.stripClose k) s = .next (lost .short)) ∧
    (∀ st h r, ch.strip = some st → st.readings.length = st.count → s.attached k = some h → s.Live h r →
      let void := st.readings.countP fun x => !x.good
      (st.count < 4 * void →
        exec (.stripClose k) s = .next { s with
          receiver := .hunting
          channels := s.channels.set k { ch with strip := none, pending := ch.pending ||| 0x02 }
          records := s.store h { r with voided := min (r.voided + 1) 65535 } }) ∧
      (4 * void ≤ st.count →
        let after := evaluation (s.gridOf r) st.readings r
        exec (.stripClose k) s = .next { s with
          receiver := .hunting
          channels := s.channels.set k { ch with strip := none, pending := ch.pending ||| 0x01 }
          records := s.records.set h ⟨.live after.1, s.records[h].pending ||| after.2, s.records[h].enabled⟩
          slots := s.slotsAfter h after.1.state.inMatch }))

/-- R91: a discard, by its cause or by the gap timer of an incomplete message, leaves the receiver HUNTING and latches
INSTRUMENT_FRAME_ERROR with the cause; no channel changes. R104: the inactivity timer of an open strip runs out with
STALLED. A stopped timer has no such event (log 5). -/
def Obligations.InstrumentDiscardsAndStalls : Prop :=
  ∀ s : State, s.procedure = none →
    let discarded (x : InstrumentFault) : State := { s with
      receiver := .hunting
      global := { s.global with pending := s.global.pending ||| 0x08, instrumentError := some x } }
    exec (.messageDiscard .check) s = .next (discarded .check) ∧
    exec (.messageDiscard .kind) s = .next (discarded .kind) ∧
    exec (.messageDiscard .channel) s = .next (discarded .channel) ∧
    (s.receiver = .hunting → exec .gapTimerExpiry s = .next s) ∧
    (∀ bytes gap, s.receiver = .receiving bytes gap → exec .gapTimerExpiry s = .next (discarded .gap)) ∧
    (∀ k : ChannelId, s.channels[k].strip = none → exec (.inactivityExpiry k) s = .next s) ∧
    (∀ k : ChannelId, s.channels[k].strip ≠ none → exec (.inactivityExpiry k) s = .next { s with
      channels := s.channels.set k { s.channels[k] with
        strip := none, lastAbandon := some .stalled, pending := s.channels[k].pending ||| 0x04 } })

/-- R89 to R91, R189: one byte on IRX: hunted; gathered with the 2 ms restarted; a channel byte above 5 and an unknown
kind byte discarded at once; the last byte of a message whose bytes sum to 0 is the message command of R189, and of one
whose bytes do not a CHECK discard. -/
def Obligations.ReceivedByteGathersMessages : Prop :=
  ∀ (s : State) (b : Byte), s.procedure = none →
    (s.receiver = .hunting →
      exec (.receivedByte b) s = .next (if b = 0xD2 then { s with receiver := .receiving [b] 2 } else s)) ∧
    (∀ start gap, s.receiver = .receiving [start] gap →
      exec (.receivedByte b) s =
        if 5 < b.toNat then exec (.messageDiscard .channel) s
        else .next { s with receiver := .receiving [start, b] 2 }) ∧
    (∀ start k gap, s.receiver = .receiving [start, k] gap →
      exec (.receivedByte b) s =
        if b = 1 ∨ b = 2 ∨ b = 3 then .next { s with receiver := .receiving [start, k, b] 2 }
        else exec (.messageDiscard .kind) s) ∧
    (∀ (start : Byte) (k : ChannelId) (gap : Nat),
      (s.receiver = .receiving [start, byteOf k.val, 3] gap →
        exec (.receivedByte b) s =
          if ([start, byteOf k.val, 3, b] : List Byte).sum = 0 then exec (.stripClose k) s
          else exec (.messageDiscard .check) s) ∧
      (∀ count, s.receiver = .receiving [start, byteOf k.val, 1, count] gap →
        exec (.receivedByte b) s =
          if ([start, byteOf k.val, 1, count, b] : List Byte).sum = 0 then exec (.stripOpen k count) s
          else exec (.messageDiscard .check) s) ∧
      (∀ i l1 l0 a1 a0 b1 b0 q, s.receiver = .receiving [start, byteOf k.val, 2, i, l1, l0, a1, a0, b1, b0, q] gap →
        exec (.receivedByte b) s =
          if ([start, byteOf k.val, 2, i, l1, l0, a1, a0, b1, b0, q, b] : List Byte).sum = 0 then
            exec (.reading k i (l1 ++ l0) (a1 ++ a0) (b1 ++ b0) q) s
          else exec (.messageDiscard .check) s) ∧
      (∀ kind rest, kind = 1 ∧ rest.length = 0 ∨ kind = 2 ∧ rest.length < 8 →
        s.receiver = .receiving (start :: byteOf k.val :: kind :: rest) gap →
        exec (.receivedByte b) s =
          .next { s with receiver := .receiving (start :: byteOf k.val :: kind :: rest ++ [b]) 2 }))

/-! ## Verification -/

/-- R115, R116, R113, R127: SET_PATCHES, with or without a white patch index: the list and the index stored, the
record UNVERIFIED with cleared streaks, window and whites, MATCH_CHANGED if it was anything else, the open strip on it
abandoned, the slot's condition lost. A triple out of range or a white index not below the count refuses it. A count
above 32 is BAD_VALUE alone, whatever bytes follow (log 18, DEDUCED); at a count up to 32 a body of another length is
BAD_LENGTH, and so is one without a count (R178, R188). -/
def Obligations.SetPatchesReplacesThePatchSet : Prop :=
  (∀ (s : State) (c : ClientId) (body : List Byte), s.Takes → body.length ≤ 200 →
    (body.length < 2 →
      exec (.setPatches (clientByte c) body) s = .next (s.refuses c 0x60 body.length 1 [.badLength])) ∧
    (∀ n, body[1]? = some n →
      (32 < n.toNat →
        exec (.setPatches (clientByte c) body) s = .next (s.refuses c 0x60 body.length 1 [.badValue])) ∧
      (n.toNat ≤ 32 → body.length ≠ 2 + 6 * n.toNat → body.length ≠ 3 + 6 * n.toNat →
        exec (.setPatches (clientByte c) body) s = .next (s.refuses c 0x60 body.length 1 [.badLength])))) ∧
  ∀ (s : State) (c : ClientId) (h : Handle) (r : Record) (n : Byte) (triples : List Byte) (white : Option Byte),
    s.Takes → s.Live h r → triples.length = 6 * n.toNat → triples.length ≤ 192 →
    let body := byteOf h.val :: n :: triples ++ white.toList
    let list := triplesOf (patchForm r.kind) triples
    let sound := (∀ t ∈ list, patchInRange r.kind t = true) ∧ ∀ w, white = some w → w.toNat < n.toNat
    (¬ sound → exec (.setPatches (clientByte c) body) s = .next (s.refuses c 0x60 body.length 1 [.badValue])) ∧
    (sound → r.data = .display → white.isSome →
      exec (.setPatches (clientByte c) body) s = .next (s.refuses c 0x60 body.length 2 [.wrongKind])) ∧
    (sound → (r.data = .display → white = none) → MayChange s c r →
      exec (.setPatches (clientByte c) body) s = .next { s.answers 0x60 body.length .done [n, 0x00] with
        records := s.records.set h ⟨.live
          { r with
            data := match r.data with
              | .paper f => .paper { f with
                  whitePatch := white.map (·.toNat), whiteCandidate := none, measuredWhite := none }
              | .display => .display
            patches := list, state := .unverified
            passStreak := 0, failStreak := 0, windowStrips := 0, windowFailing := 0 },
          s.records[h].pending ||| (if r.state = .unverified then 0 else 0x01), s.records[h].enabled⟩
        channels := s.channelsChanged h
        slots := s.slotsAfter h false })

/-- R117: SET_NOMINAL_WHITE stores the triple or its absence and makes the white candidate and the measured white
absent; every other field of the record, every strip and every indication is kept. -/
def Obligations.SetNominalWhiteClearsTheWhites : Prop :=
  ∀ (s : State) (c : ClientId) (h : Handle) (r : Record) (six : Option (Byte × Byte × Byte × Byte × Byte × Byte)),
    s.Takes → s.Live h r →
    let body := byteOf h.val :: (match six with
      | none => [] | some (l1, l0, a1, a0, b1, b0) => [l1, l0, a1, a0, b1, b0])
    let white : Option Triple := six.map fun (l1, l0, a1, a0, b1, b0) => labOf l1 l0 a1 a0 b1 b0
    ((∃ t, white = some t ∧ labInRange t = false) →
      exec (.setNominalWhite (clientByte c) body) s = .next (s.refuses c 0x61 body.length 1 [.badValue])) ∧
    ((∀ t, white = some t → labInRange t = true) →
      (r.data = .display →
        exec (.setNominalWhite (clientByte c) body) s = .next (s.refuses c 0x61 body.length 2 [.wrongKind])) ∧
      (∀ f, r.data = .paper f → MayChange s c r →
        exec (.setNominalWhite (clientByte c) body) s = .next { s.answers 0x61 body.length .done [] with
          records := s.store h { r with
            data := .paper { f with nominalWhite := white, whiteCandidate := none, measuredWhite := none } } }))

/-- R118 to R120: SET_MATCH_SETTINGS replaces the settings, each numeric one clamped for a lenient client, and clears
the streaks and the window; the match state, hold, counters, whites and trim are kept. A DISPLAY record carries white
limit 0 and trim follow off. -/
def Obligations.SetMatchSettingsReplacesAll : Prop :=
  ∀ (s : State) (c : ClientId) (h : Handle) (r : Record) (acq loss pl1 pl0 tol exc wl1 wl0 : Byte)
    (auto pin force follow clear : Bool), s.Takes → s.Live h r → MayChange s c r →
    let near (lo hi v : Nat) : Nat := max lo (min hi v)
    let kept : Settings := ⟨near 1 4 acq.toNat, near 2 4 loss.toNat, auto, pin, near 1 5000 (u16 pl1 pl0),
      near 0 8 tol.toNat, near 1 255 exc.toNat, force, clear⟩
    let exact := kept = ⟨acq.toNat, loss.toNat, auto, pin, u16 pl1 pl0, tol.toNat, exc.toNat, force, clear⟩
    let frame := Instr.setMatchSettings (clientByte c) [byteOf h.val, acq, loss, encBool auto, encBool pin, pl1, pl0,
      tol, exc, encBool force, wl1, wl0, encBool follow, encBool clear]
    let cleared (data : KindData) : Record := { r with
      data := data, settings := kept, passStreak := 0, failStreak := 0, windowStrips := 0, windowFailing := 0 }
    (r.data = .display →
      (¬ exact → s.clients[c].strict = true → exec frame s = .next (s.refuses c 0x62 14 1 [.badValue])) ∧
      (exact ∨ s.clients[c].strict = false →
        (u16 wl1 wl0 ≠ 0 ∨ follow = true → exec frame s = .next (s.refuses c 0x62 14 2 [.wrongKind])) ∧
        (u16 wl1 wl0 = 0 → follow = false →
          exec frame s = .next { s.answers 0x62 14 (if exact then .done else .doneAdjusted)
              (encSettings (cleared .display)) with
            records := s.store h (cleared .display) }))) ∧
    (∀ f, r.data = .paper f →
      let limit := near 1 2000 (u16 wl1 wl0)
      let data := KindData.paper { f with whiteLimit := limit, trimFollow := follow }
      (¬ (exact ∧ limit = u16 wl1 wl0) → s.clients[c].strict = true →
        exec frame s = .next (s.refuses c 0x62 14 1 [.badValue])) ∧
      (exact ∧ limit = u16 wl1 wl0 ∨ s.clients[c].strict = false →
        exec frame s = .next { s.answers 0x62 14 (if exact ∧ limit = u16 wl1 wl0 then .done else .doneAdjusted)
            (encSettings (cleared data)) with
          records := s.store h (cleared data) }))

/-- R134: REVERIFY makes the record UNVERIFIED, answers the state before, and clears the streaks and the window; the
slot's condition is lost; the open strip, the whites, the hold and the counters are kept. R135: CLEAR_HOLD answers the
hold and makes it absent. R136: READ_COUNTERS answers the three counters; with clear-on-read on it needs change access
and zeroes them, with it off it needs lookup access. -/
def Obligations.ReverifyClearHoldReadCounters : Prop :=
  ∀ (s : State) (c : ClientId) (h : Handle) (r : Record), s.Takes → s.Live h r →
    (¬ MayChange s c r →
      exec (.reverify (clientByte c) [byteOf h.val]) s = .next (s.refuses c 0x63 1 3 [.notPermitted])) ∧
    (MayChange s c r →
      exec (.reverify (clientByte c) [byteOf h.val]) s =
        .next { s.answers 0x63 1 .done [encMatchState r.state] with
          records := s.records.set h ⟨.live
            { r with
              state := .unverified, passStreak := 0, failStreak := 0, windowStrips := 0, windowFailing := 0 },
            s.records[h].pending ||| (if r.state = .unverified then 0 else 0x01), s.records[h].enabled⟩
          slots := s.slotsAfter h false }) ∧
    (MayChange s c r →
      exec (.clearHold (clientByte c) [byteOf h.val]) s =
        .next { s.answers 0x64 1 .done (match r.hold with
            | none => [0, 0, 0, 0] | some x => 1 :: enc16 x.deviation ++ [byteOf x.patch]) with
          records := s.store h { r with hold := none } }) ∧
    (¬ MayChange s c r →
      exec (.clearHold (clientByte c) [byteOf h.val]) s = .next (s.refuses c 0x64 1 3 [.notPermitted])) ∧
    (r.settings.clearOnRead = true → MayChange s c r →
      exec (.readCounters (clientByte c) [byteOf h.val]) s =
        .next { s.answers 0x65 1 .done (enc16 r.passed ++ enc16 r.failed ++ enc16 r.voided) with
          records := s.store h { r with passed := 0, failed := 0, voided := 0 } }) ∧
    (r.settings.clearOnRead = false → MayLookup s c r →
      exec (.readCounters (clientByte c) [byteOf h.val]) s =
        .next (s.answers 0x65 1 .done (enc16 r.passed ++ enc16 r.failed ++ enc16 r.voided))) ∧
    (r.settings.clearOnRead = true ∧ ¬ MayChange s c r ∨ r.settings.clearOnRead = false ∧ ¬ MayLookup s c r →
      exec (.readCounters (clientByte c) [byteOf h.val]) s = .next (s.refuses c 0x65 1 3 [.notPermitted]))

/-- R122 to R124, R132: an evaluation raises one strip counter by one, saturating; captures the first failure of an
absent hold, the largest deviation, above the patch limit, with the lowest patch index at which it occurs, and
HOLD_CAPTURED; latches MATCH_CHANGED
exactly when the state at the end differs; and keeps the key, owner, sets, bank, patches, settings and strips void. -/
def Obligations.EvaluationCountsAndHolds : Prop :=
  ∀ (ns : Nodes) (readings : List Reading) (r : Record),
    let js := judgePatches r ns readings
    let fails := r.settings.tolerance < js.countP fun j => r.settings.patchLimit < j.deviation
    let after := evaluation ns readings r
    (fails → after.1.failed = min (r.failed + 1) 65535 ∧ after.1.passed = r.passed) ∧
    (¬ fails → after.1.passed = min (r.passed + 1) 65535 ∧ after.1.failed = r.failed) ∧
    (r.hold.isSome ∨ ¬ fails → after.1.hold = r.hold ∧ after.2 &&& 0x08 = 0) ∧
    (r.hold = none → fails → after.2 &&& 0x08 ≠ 0 ∧
      ∃ x, after.1.hold = some x ∧ r.settings.patchLimit < x.deviation ∧
        (∃ j ∈ js, j.deviation = x.deviation ∧ j.patch = x.patch) ∧
        ∀ j ∈ js, j.deviation ≤ x.deviation ∧ (j.deviation = x.deviation → x.patch ≤ j.patch)) ∧
    (after.2 &&& 0x01 ≠ 0 ↔ after.1.state ≠ r.state) ∧
    after.1.key = r.key ∧ after.1.owner = r.owner ∧ after.1.change = r.change ∧ after.1.lookup = r.lookup ∧
    after.1.bank = r.bank ∧ after.1.patches = r.patches ∧ after.1.settings = r.settings ∧ after.1.voided = r.voided

/-- R121: an evaluation is its seven stages in order, with the indications of R132. R122: stage 1 judges each reading
that is GOOD against its patch's target, a VOID one taking no part. R123, R124: the counters and the hold. R125 to R127,
R129 to R131: the window of eight strips, the match step, the white stage and trim follow, as their rules give them. -/
def Obligations.EvaluationStagesFollowTheirTables : Prop :=
  (∀ (ns : Nodes) (readings : List Reading) (r : Record),
    let js := judgePatches r ns readings
    let failures := js.countP fun j => r.settings.patchLimit < j.deviation
    let pass : Bool := failures ≤ r.settings.tolerance
    let counted : Record := if pass then { r with passed := min (r.passed + 1) 65535 }
      else { r with failed := min (r.failed + 1) 65535 }
    let held := stageHold pass js counted
    let windowed := stageWindow failures held.1
    let whitened := stageWhite readings (stageMatch pass windowed.1)
    let last := stageTrim pass js whitened.1
    evaluation ns readings r =
      (last, held.2 ||| windowed.2 ||| whitened.2 ||| (if last.state = r.state then 0 else 0x01))) ∧
  (∀ (ns : Nodes) (readings : List Reading) (r : Record),
    let target (patch : Triple) : Triple := match r.data with
      | .paper f => (paperTransform ns f.trim patch).1 | .display => patch
    let js := judgePatches r ns readings
    js.Pairwise (fun j k => j.patch < k.patch) ∧
    ∀ j : Judged, j ∈ js ↔ ∃ reading patch, readings[j.patch]? = some reading ∧ r.patches[j.patch]? = some patch ∧
      reading.good = true ∧ j.deviation = deviation reading.lab (target patch) ∧
      j.errorL = reading.lab.x - (target patch).x) ∧
  (∀ (pass : Bool) (js : List Judged) (r : Record),
    (pass = true ∨ r.hold.isSome → stageHold pass js r = (r, 0)) ∧
    (pass = false → r.hold = none → ∀ j ∈ js,
      (∀ k ∈ js, k.deviation ≤ j.deviation ∧ (k.deviation = j.deviation → j.patch ≤ k.patch)) →
      js.Pairwise (fun j k => j.patch < k.patch) →
      stageHold pass js r = ({ r with hold := some ⟨j.deviation, j.patch⟩ }, 0x08))) ∧
  (∀ (failures : Nat) (r : Record), r.state.inMatch = true →
    (r.windowStrips + 1 < 8 → stageWindow failures r =
      ({ r with windowStrips := r.windowStrips + 1, windowFailing := r.windowFailing + failures }, 0)) ∧
    (8 ≤ r.windowStrips + 1 → r.windowFailing + failures < r.settings.excessive →
      stageWindow failures r = ({ r with windowStrips := 0, windowFailing := 0 }, 0)) ∧
    (8 ≤ r.windowStrips + 1 → r.settings.excessive ≤ r.windowFailing + failures →
      stageWindow failures r =
        ((if r.settings.excessForcesLoss = true ∧ r.settings.pinned = false then
            { r with state := .lost, passStreak := 0, failStreak := 0, windowStrips := 0, windowFailing := 0 }
          else { r with windowStrips := 0, windowFailing := 0 }), 0x02))) ∧
  (∀ (failures : Nat) (r : Record), r.state.inMatch = false → stageWindow failures r = (r, 0)) ∧
  (∀ r : Record,
    let matched : Record := { r with
      state := .matched, passStreak := 0, failStreak := 0, windowStrips := 0, windowFailing := 0 }
    let climbed : Record := if r.settings.acquire ≤ r.passStreak + 1 then matched
      else { r with passStreak := r.passStreak + 1 }
    (r.state = .unverified → stageMatch true r = climbed ∧ stageMatch false r = { r with passStreak := 0 }) ∧
    (r.state = .lost →
      stageMatch true r = (if r.settings.autoReacquire then climbed else r) ∧
      stageMatch false r = { r with passStreak := 0 }) ∧
    (r.state = .matched →
      stageMatch true r = r ∧
      stageMatch false r =
        if r.settings.pinned then r else { r with state := .suspect, passStreak := 0, failStreak := 1 }) ∧
    (r.state = .suspect →
      stageMatch true r = { r with state := .matched, passStreak := 0, failStreak := 0 } ∧
      stageMatch false r =
        if r.settings.loss ≤ r.failStreak + 1 then
          { r with state := .lost, passStreak := 0, failStreak := 0, windowStrips := 0, windowFailing := 0 }
        else { r with failStreak := r.failStreak + 1 })) ∧
  (∀ (r : Record) (f : PaperFields) (readings : List Reading) (js : List Judged) (pass : Bool), r.data = .paper f →
    (f.whitePatch = none → stageWhite readings r = (r, 0)) ∧
    (∀ (n : Nat) (w : Reading), f.whitePatch = some n → readings[n]? = some w →
      let candidate := if w.good then some w.lab else none
      let agrees := w.good = true ∧ ∃ k, f.whiteCandidate = some k ∧
        |w.lab.x - k.x| ≤ 50 ∧ |w.lab.y - k.y| ≤ 50 ∧ |w.lab.z - k.z| ≤ 50
      let wrong := ∃ k, f.nominalWhite = some k ∧ f.whiteLimit < deviation w.lab k
      (¬ agrees →
        stageWhite readings r = ({ r with data := .paper { f with whiteCandidate := candidate } }, 0)) ∧
      (agrees →
        let data := KindData.paper { f with measuredWhite := some w.lab, whiteCandidate := candidate }
        (¬ wrong → stageWhite readings r = ({ r with data := data }, 0x10)) ∧
        (wrong → r.settings.pinned = true ∨ r.state = .lost →
          stageWhite readings r = ({ r with data := data }, 0x14)) ∧
        (wrong → r.settings.pinned = false → r.state ≠ .lost →
          ∃ t, stageWhite readings r = (t, 0x14) ∧ t.state = .lost ∧ t.passStreak = 0 ∧ t.failStreak = 0 ∧
            t.data = data))) ∧
    stageTrim pass js r =
      if f.trimFollow = true ∧ pass = true ∧ r.state = .matched then
        { r with data := .paper { f with trim := { f.trim with
            offL := clampTo (-500) 500
              (f.trim.offL + roundDiv (roundDiv ((js.map (·.errorL)).sum) js.length) 4) } } }
      else r)

/-! ## Printer slots -/

/-- R141, R143, R147: the machine's table: an edge of the condition and the expiry of the timer, LINE_CHANGED exactly
when the output changes; under an override nothing moves. A commanded expiry of a timer that is stopped or frozen changes
nothing: R141 rules the event out (log 5, DEDUCED). -/
def Obligations.LineMachineFollowsTheTable : Prop :=
  ∀ (p : PrinterSlot) (s : State) (n : SlotId),
    (p.override ≠ .auto → p.edge false true = p ∧ p.edge true false = p) ∧
    (∀ condition, p.edge condition condition = p) ∧
    (p.override = .auto →
      (p.line = .off → p.edge false true =
        if p.t1 = 0 then { p with line := .on, pending := p.pending ||| 0x01 }
        else { p with line := .arming (p.t1 * 10) }) ∧
      (∀ t, p.line = .releasing t → p.edge false true = { p with line := .on }) ∧
      (∀ t, p.line = .arming t → p.edge true false = { p with line := .off }) ∧
      (p.line = .on → p.edge true false =
        if p.t2 = 0 then { p with line := .off, pending := p.pending ||| 0x01 }
        else { p with line := .releasing (p.t2 * 10) })) ∧
    (s.procedure = none → s.slots[n] = p →
      (p.override = .auto → ∀ t,
        (p.line = .arming t → exec (.lineTimerExpiry n) s =
          .next { s with slots := s.slots.set n { p with line := .on, pending := p.pending ||| 0x01 } }) ∧
        (p.line = .releasing t → exec (.lineTimerExpiry n) s =
          .next { s with slots := s.slots.set n { p with line := .off, pending := p.pending ||| 0x01 } })) ∧
      (p.override ≠ .auto ∨ p.line = .off ∨ p.line = .on → exec (.lineTimerExpiry n) s = .next s))

/-- R144, R145: SET_SLOT_PAPER, with a record or with none: the active paper replaced, the head channel's open strip
abandoned with CHANGED, the condition re-evaluated; a paper of another slot is IN_USE, a DISPLAY record WRONG_KIND. -/
def Obligations.SetSlotPaperMovesThePaper : Prop :=
  ∀ (s : State) (c : ClientId) (n : SlotId), s.Takes → IsAdmin s c →
    let ch := s.channels[headOf n]
    let moved (len : Nat) (paper : Option Handle) (condition : Bool) : State :=
      let p := { s.slots[n] with paper := paper }.edge (s.lineCondition n) condition
      { s.answers 0x70 len .done [encNumber paper, encLine p.line] with
        slots := s.slots.set n p
        channels := if ch.strip.isSome then
            s.channels.set (headOf n)
              { ch with strip := none, lastAbandon := some .changed, pending := ch.pending ||| 0x04 }
          else s.channels }
    exec (.setSlotPaper (clientByte c) [byteOf n.val]) s = .next (moved 1 none false) ∧
    (∀ h r, s.Live h r → r.data = .display →
      exec (.setSlotPaper (clientByte c) [byteOf n.val, byteOf h.val]) s = .next (s.refuses c 0x70 2 2 [.wrongKind])) ∧
    (∀ h r f, s.Live h r → r.data = .paper f →
      ((∃ k : SlotId, k ≠ n ∧ s.slots[k].paper = some h) →
        exec (.setSlotPaper (clientByte c) [byteOf n.val, byteOf h.val]) s = .next (s.refuses c 0x70 2 4 [.inUse])) ∧
      ((∀ k : SlotId, k ≠ n → s.slots[k].paper ≠ some h) →
        exec (.setSlotPaper (clientByte c) [byteOf n.val, byteOf h.val]) s =
          .next (moved 2 (some h) r.state.inMatch)))

/-- R146, R143: SET_SLOT_LINE replaces the delays, clamped for a lenient client, and the override; FORCE_ON and
FORCE_OFF freeze the line in OFF, a return to AUTO starts it from OFF with the condition as it stands, AUTO to AUTO
keeps it. LINE_CHANGED is latched exactly when the output changes. -/
def Obligations.SetSlotLineOverridesTheLine : Prop :=
  ∀ (s : State) (c : ClientId) (n : SlotId) (o : Override) (x1 x0 y1 y0 : Byte), s.Takes → IsAdmin s c →
    let p := s.slots[n]
    let t1 := min (u16 x1 x0) 6000
    let t2 := min (u16 y1 y0) 6000
    let exact : Bool := u16 x1 x0 ≤ 6000 ∧ u16 y1 y0 ≤ 6000
    let line : LineState := match o, p.override with
      | .auto, .auto => p.line
      | .auto, _ => if s.lineCondition n then (if t1 = 0 then .on else .arming (t1 * 10)) else .off
      | _, _ => .off
    let high : Bool := match o, line with
      | .forceOn, _ => true | .forceOff, _ => false
      | .auto, .on => true | .auto, .releasing _ => true | .auto, .off => false | .auto, .arming _ => false
    let q : PrinterSlot := { p with
      override := o, t1 := t1, t2 := t2, line := line
      pending := if s.pval n = high then p.pending else p.pending ||| 0x01 }
    let frame := Instr.setSlotLine (clientByte c) [byteOf n.val, encOverride o, x1, x0, y1, y0]
    (exact = false → s.clients[c].strict = true → exec frame s = .next (s.refuses c 0x71 6 1 [.badValue])) ∧
    (exact = true ∨ s.clients[c].strict = false →
      exec frame s = .next { s.answers 0x71 6 (if exact then .done else .doneAdjusted)
          ([encOverride o] ++ enc16 t1 ++ enc16 t2 ++ [encLine line, encBool high]) with
        slots := s.slots.set n q })

/-! ## Indications and clients -/

/-- R156, R157, R153: ACK_INDICATIONS removes the set from the source's pending set, empties the accumulating details
of the global indications that were pending and are named, and answers the pending set after; R159: SET_ENABLES
replaces the enabled set. R156: the refusals of both, group by group. R154: ATTN is high exactly when some source has an
indication both pending and enabled. -/
def Obligations.AcknowledgeEnableAndAttn : Prop :=
  (∀ (s : State) (c : ClientId) (cls number set : Byte), s.Takes →
    let ack := Instr.ackIndications (clientByte c) [cls, number, set]
    let enable := Instr.setEnables (clientByte c) [cls, number, set]
    let refused (i : Instr) (group : Nat) (cause : Cause) : Prop := exec i s = .next (s.refuses c 0x81 4 group [cause])
    let members : Byte := match cls.toNat with | 0 => 0x1F | 1 => 0x01 | 2 => 0x07 | 3 => 0x07 | 4 => 0x3F | _ => 0
    let units : Nat := match cls.toNat with | 0 => 1 | 1 => 4 | 2 => 2 | 3 => 6 | 4 => 48 | _ => 0
    (4 < cls.toNat ∨ set &&& ~~~members ≠ 0 → refused ack 1 .badValue ∧ refused enable 1 .badValue) ∧
    (cls.toNat ≤ 4 → set &&& ~~~members = 0 →
      (cls.toNat < 4 → units ≤ number.toNat → refused ack 2 .noSuchUnit ∧ refused enable 2 .noSuchUnit) ∧
      (cls.toNat = 4 → units ≤ number.toNat → refused ack 2 .noSuchRecord ∧ refused enable 2 .noSuchRecord) ∧
      (cls.toNat < 4 → number.toNat < units → ¬ IsAdmin s c → refused enable 3 .notAdmin) ∧
      (cls.toNat = 4 → ∀ h : Handle, number = byteOf h.val →
        (s.record? h = none → refused enable 2 .noSuchRecord ∧ (¬ IsAdmin s c → refused ack 3 .notAdmin)) ∧
        (∀ r, s.Live h r → ¬ MayChange s c r → refused ack 3 .notPermitted ∧ refused enable 3 .notPermitted)))) ∧
  (∀ s : State, s.attn = true ↔
    s.global.pending &&& s.global.enabled ≠ 0 ∨ (∃ n : SlotId, s.slots[n].pending &&& s.slots[n].enabled ≠ 0) ∨
      (∃ l : LaneId, s.lanes[l].pending &&& s.lanes[l].enabled ≠ 0) ∨
      (∃ k : ChannelId, s.channels[k].pending &&& s.channels[k].enabled ≠ 0) ∨
      ∃ h : Handle, s.records[h].pending &&& s.records[h].enabled ≠ 0) ∧
  ∀ (s : State) (c : ClientId) (src : Source) (set : Byte), s.Takes → set &&& ~~~src.members = 0 →
    ((∀ h r, src = .record h → s.Live h r → MayChange s c r) →
      (∀ h, src = .record h → s.record? h = none → IsAdmin s c) →
      let left := s.pendingOf src &&& ~~~set
      let t := s.answers 0x81 4 .done [0x01, left]
      exec (.ackIndications (clientByte c) (src.code ++ [set])) s = .next (match src with
        | .global => { t with global := { s.global with
            pending := left
            resetReasons := if s.global.pending &&& set &&& 0x01 ≠ 0 then 0 else s.global.resetReasons
            expired := if s.global.pending &&& set &&& 0x02 ≠ 0 then 0 else s.global.expired
            faultSet := if s.global.pending &&& set &&& 0x10 ≠ 0 then 0 else s.global.faultSet } }
        | .slot n => { t with slots := s.slots.set n { s.slots[n] with pending := left } }
        | .lane n => { t with lanes := s.lanes.set n { s.lanes[n] with pending := left } }
        | .channel n => { t with channels := s.channels.set n { s.channels[n] with pending := left } }
        | .record h => { t with records := s.records.set h { s.records[h] with pending := left } })) ∧
    ((∀ h, src = .record h → ∃ r, s.Live h r ∧ MayChange s c r) → ((∀ h, src ≠ .record h) → IsAdmin s c) →
      let t := s.answers 0x81 4 .done [0x02, set]
      exec (.setEnables (clientByte c) (src.code ++ [set])) s = .next (match src with
        | .global => { t with global := { s.global with enabled := set } }
        | .slot n => { t with slots := s.slots.set n { s.slots[n] with enabled := set } }
        | .lane n => { t with lanes := s.lanes.set n { s.lanes[n] with enabled := set } }
        | .channel n => { t with channels := s.channels.set n { s.channels[n] with enabled := set } }
        | .record h => { t with records := s.records.set h { s.records[h] with enabled := set } }))

/-- R177: SET_CLIENT replaces both flags of the client named; clearing client 0's admin flag is refused with BAD_VALUE
(R176), a client above 7 with NO_SUCH_UNIT, a client that is no admin with NOT_ADMIN. -/
def Obligations.SetClientReplacesBothFlags : Prop :=
  ∀ (s : State) (c : ClientId) (number : Byte) (strict admin : Bool), s.Takes →
    let frame := Instr.setClient (clientByte c) [number, encBool strict, encBool admin]
    (number = 0 → admin = false → exec frame s = .next (s.refuses c 0x90 3 1 [.badValue])) ∧
    (7 < number.toNat → exec frame s = .next (s.refuses c 0x90 3 2 [.noSuchUnit])) ∧
    (∀ d : ClientId, number = clientByte d → ¬ (d = 0 ∧ admin = false) →
      (¬ IsAdmin s c → exec frame s = .next (s.refuses c 0x90 3 3 [.notAdmin])) ∧
      (IsAdmin s c →
        exec frame s = .next { s.answers 0x90 3 .done [encBool strict, encBool admin] with
          clients := s.clients.set d ⟨strict, admin⟩ }))

/-- R182, R183, R23, R49, R87, R109, R149, R160: CLEAR_TABLES frees every record, context and reference in one event
and keeps the signals, policies, corrections, overrides, delays, enabled sets of units, clients and global source. -/
def Obligations.ClearTablesEmptiesTheTables : Prop :=
  ∀ (s : State) (c : ClientId), s.Takes →
    (¬ IsAdmin s c → exec (.clearTables (clientByte c) []) s = .next (s.refuses c 0x91 0 3 [.notAdmin])) ∧
    (IsAdmin s c → exec (.clearTables (clientByte c) []) s = .next { s.answers 0x91 0 .done [] with
      records := Vector.replicate 48 ⟨.free, 0, 0⟩
      contexts := Vector.replicate 4 .idle
      lanes := s.lanes.map fun x => ⟨x.signal, none, .absent, x.policy, .pass, none, none, none, none, none, [], 0,
        x.enabled⟩
      channels := s.channels.map fun x => ⟨x.correction, none, none, 0, x.enabled⟩
      slots := s.slots.map fun x => ⟨none, x.override, x.t1, x.t2, .off, 0, x.enabled⟩ })

/-! ## The Supervisor -/

/-- R162, R165 to R167: each onset. With no procedure running, or one of lower priority, a new procedure begins in
CONDITION: every block returns to its reset values and the reset reasons keep the flags of equal or higher priority
and gain the source's; an equal priority returns to CONDITION and sets the flag; a lower one is ignored, its condition
noted. Log 11 (DEDUCED): a supply below the power-on thresholds is below the supply-low ones. Log 21 (DESIGN CHOICE): an
onset commanded while its own condition is present acts as an onset. -/
def Obligations.OnsetsActByPriority : Prop :=
  ∀ s : State,
    let reasons := s.global.resetReasons
    let begun (src : ResetSource) (kept : Byte) (conditions : Conditions) : State :=
      { State.blank with
        global := { Global.blank with resetReasons := (reasons &&& kept) ||| src.flag }
        procedure := some ⟨src, none, .condition⟩, conditions := conditions, pending := s.pending }
    let again (src : ResetSource) (p : Procedure) (conditions : Conditions) : State :=
      { s with
        global := { s.global with resetReasons := reasons ||| src.flag }
        procedure := some { p with phase := .condition }, conditions := conditions }
    let acts (i : Instr) (src : ResetSource) (kept : Byte) (conditions : Conditions) : Prop :=
      (s.procedure = none → exec i s = .next (begun src kept conditions)) ∧
      ∀ p, s.procedure = some p →
        (src.priority < p.source.priority → exec i s = .next (begun src kept conditions)) ∧
        (src.priority = p.source.priority → exec i s = .next (again src p conditions)) ∧
        (p.source.priority < src.priority → exec i s = .next { s with conditions := conditions })
    acts .powerOnOnset .powerOn 0x01 { s.conditions with powerOn := true, supplyLow := true } ∧
    acts .supplyLowOnset .supplyLow 0x07 { s.conditions with supplyLow := true } ∧
    acts .coreClockFailOnset .coreClockFail 0x07 { s.conditions with coreClockFail := true } ∧
    acts .pinOnset .pin 0x0F { s.conditions with pin := true }

/-- R164: the end of a condition. A procedure in CONDITION with no condition of its priority left goes to HOLD, 200 ms
for priorities 1 and 2 and 2 ms for priority 3; otherwise the phase stays. Log 11: a supply above the supply-low
thresholds is above the power-on ones. -/
def Obligations.ConditionEndStartsTheHold : Prop :=
  ∀ (s : State) (x : ResetCondition),
    let left : Conditions := match x with
      | .powerOn => { s.conditions with powerOn := false }
      | .supplyLow => { s.conditions with supplyLow := false, powerOn := false }
      | .coreClockFail => { s.conditions with coreClockFail := false }
      | .pin => { s.conditions with pin := false }
    let holds (k : Conditions) (src : ResetSource) : Bool := match src with
      | .powerOn => k.powerOn
      | .supplyLow => k.supplyLow || k.coreClockFail
      | .coreClockFail => k.supplyLow || k.coreClockFail
      | .pin => k.pin
      | .restart => false
    ((match x with
      | .powerOn => s.conditions.powerOn | .supplyLow => s.conditions.supplyLow
      | .coreClockFail => s.conditions.coreClockFail | .pin => s.conditions.pin) = false →
      exec (.conditionEnd x) s = .next s) ∧
    ((match x with
      | .powerOn => s.conditions.powerOn | .supplyLow => s.conditions.supplyLow
      | .coreClockFail => s.conditions.coreClockFail | .pin => s.conditions.pin) = true →
      (s.procedure = none → exec (.conditionEnd x) s = .next { s with conditions := left }) ∧
      (∀ p t, s.procedure = some p → p.phase = .hold t →
        exec (.conditionEnd x) s = .next { s with conditions := left }) ∧
      (∀ p, s.procedure = some p → p.phase = .condition →
        (holds left p.source = true → exec (.conditionEnd x) s = .next { s with conditions := left }) ∧
        (holds left p.source = false → exec (.conditionEnd x) s = .next { s with
          conditions := left
          procedure := some { p with phase := .hold (if p.source.priority ≤ 2 then 200 else 2) } })))

/-- R168, R166, R167, R161: the hold runs out: a condition of lower priority continues as a procedure of the highest
such source, both supply-low and core-clock-fail together; else the procedure ends with RESET_OCCURRED. -/
def Obligations.HoldExpiryContinuesOrEnds : Prop :=
  ∀ (s : State) (p : Procedure) (t : Nat), s.procedure = some p → p.phase = .hold t →
    let k := s.conditions
    let next (src : ResetSource) (second : Option ResetSource) (kept flags : Byte) : State :=
      { State.blank with
        global := { Global.blank with resetReasons := (s.global.resetReasons &&& kept) ||| flags }
        procedure := some ⟨src, second, .condition⟩, conditions := k, pending := s.pending }
    (p.source.priority = 1 → k.supplyLow = true → k.coreClockFail = true →
      exec .holdTimerExpiry s = .next (next .supplyLow (some .coreClockFail) 0x07 0x06)) ∧
    (p.source.priority = 1 → k.supplyLow = true → k.coreClockFail = false →
      exec .holdTimerExpiry s = .next (next .supplyLow none 0x07 0x02)) ∧
    (p.source.priority = 1 → k.supplyLow = false → k.coreClockFail = true →
      exec .holdTimerExpiry s = .next (next .coreClockFail none 0x07 0x04)) ∧
    (p.source.priority ≤ 2 → (p.source.priority = 1 → k.supplyLow = false ∧ k.coreClockFail = false) → k.pin = true →
      exec .holdTimerExpiry s = .next (next .pin none 0x0F 0x08)) ∧
    ((p.source.priority = 1 → k.supplyLow = false ∧ k.coreClockFail = false) →
      (p.source.priority ≤ 2 → k.pin = false) →
      exec .holdTimerExpiry s = .next { s with
        procedure := none, global := { s.global with pending := s.global.pending ||| 0x01 } })

/-- R184, R169, R166, R167: a RESTART of an admin client prepares no response and starts a RESTART procedure in HOLD at
2 ms, every block at its reset values and the response slot EMPTY; SDO carried fill bytes under the frame (R170); another
client is refused. -/
def Obligations.RestartStartsAProcedure : Prop :=
  ∀ (s : State) (c : ClientId), s.Takes →
    (¬ IsAdmin s c → exec (.restart (clientByte c) []) s = .next (s.refuses c 0x92 0 3 [.notAdmin])) ∧
    (IsAdmin s c → exec (.restart (clientByte c) []) s = .next { State.blank with
      global := { Global.blank with resetReasons := s.global.resetReasons &&& 0x1F ||| 0x10 }
      sdo := fill 5, procedure := some ⟨.restart, none, .hold 2⟩, conditions := s.conditions, pending := s.pending })

/-! ## Invariants every step keeps -/

/-- The reset state has every invariant below. -/
def Obligations.ResetHasTheInvariants : Prop :=
  State.reset.ClientZeroAdmin ∧ State.reset.KeysUnique ∧ State.reset.BanksCanonical ∧ State.reset.SetsInClass ∧
    State.reset.LinesAgree ∧ State.reset.PendingIsChecking ∧ State.reset.DetailsOrHeld ∧ State.reset.PoolExclusive

/-- R176: client 0's admin flag is on at all times. -/
def Obligations.ClientZeroStaysAdmin : Prop :=
  ∀ s t : State, s.ClientZeroAdmin → step s = .next t → t.ClientZeroAdmin

/-- R3: no two records outside FREE have the same key. -/
def Obligations.RecordKeysStayUnique : Prop :=
  ∀ s t : State, s.KeysUnique → step s = .next t → t.KeysUnique

/-- The banks keep their canonical form (INVENTORY.md, Memory and ordering). -/
def Obligations.BanksStayCanonical : Prop :=
  ∀ s t : State, s.BanksCanonical → step s = .next t → t.BanksCanonical

/-- R151: a source's sets hold no indication of another class. -/
def Obligations.IndicationsStayInTheirClass : Prop :=
  ∀ s t : State, s.SetsInClass → step s = .next t → t.SetsInClass

/-- R139, R141: the line machine keeps the condition true in ARMING and ON and false in OFF and RELEASING under AUTO,
and is frozen in OFF under an override. -/
def Obligations.LineMachineAgreesWithCondition : Prop :=
  ∀ s t : State, s.LinesAgree → step s = .next t → t.LinesAgree

/-- R46, R174: the response is PENDING exactly while one context is CHECKING, and no more than one is. -/
def Obligations.PendingExactlyWhileChecking : Prop :=
  ∀ s t : State, s.PendingIsChecking → step s = .next t → t.PendingIsChecking

/-- R153, R161, R167: outside a procedure each accumulating detail is non-empty exactly when its indication is pending;
during one every block is held at its reset values. -/
def Obligations.DetailsMatchAndResetHolds : Prop :=
  ∀ s t : State, s.DetailsOrHeld → step s = .next t → t.DetailsOrHeld

/-- R28, R33: no bank has two owners among the records and the contexts, and the contexts belong to different LIVE
records. -/
def Obligations.PoolOwnersStayExclusive : Prop :=
  ∀ s t : State, s.PoolExclusive → step s = .next t → t.PoolExclusive

end
end

