-- ==== Sys2Proof/Laws/Colour.lean ====
section
/-! SUPPORT. What a clamp leaves (R53), the ranges of the three transforms (R59, R60) and of a pixel word (R69). -/
namespace Sys2Proof.Machine

/-! ## Clamping (00_scope.md, Conventions) -/

theorem inRange_iff {lo hi v : Int} : inRange lo hi v = true ↔ lo ≤ v ∧ v ≤ hi := by
  unfold inRange
  rw [Bool.and_eq_true]
  exact and_congr decide_eq_true_iff decide_eq_true_iff

theorem inRange_clampTo {lo hi : Int} (h : lo ≤ hi) (v : Int) : inRange lo hi (clampTo lo hi v) = true := by
  rw [inRange_iff]
  unfold clampTo
  split_ifs <;> omega

theorem clampTo_inRange {lo hi v : Int} (h : inRange lo hi v = true) : clampTo lo hi v = v := by
  rw [inRange_iff] at h
  unfold clampTo
  rw [if_neg (by omega), if_neg (by omega)]

theorem labInRange_iff {t : Triple} : labInRange t = true ↔
    inRange 0 10000 t.x = true ∧ inRange (-12800) 12799 t.y = true ∧ inRange (-12800) 12799 t.z = true := by
  simp only [labInRange, Bool.and_eq_true, and_assoc]

theorem deviceInRange_iff {t : Triple} : deviceInRange t = true ↔
    inRange 0 1023 t.x = true ∧ inRange 0 1023 t.y = true ∧ inRange 0 1023 t.z = true := by
  simp only [deviceInRange, Bool.and_eq_true, and_assoc]

@[simp] theorem labInRange_clampLab (t : Triple) : labInRange (clampLab t) = true :=
  labInRange_iff.mpr ⟨inRange_clampTo (by decide) _, inRange_clampTo (by decide) _, inRange_clampTo (by decide) _⟩

@[simp] theorem deviceInRange_clampDevice (t : Triple) : deviceInRange (clampDevice t) = true :=
  deviceInRange_iff.mpr ⟨inRange_clampTo (by decide) _, inRange_clampTo (by decide) _, inRange_clampTo (by decide) _⟩

theorem clampLab_inRange {t : Triple} (h : labInRange t = true) : clampLab t = t := by
  obtain ⟨hx, hy, hz⟩ := labInRange_iff.mp h
  unfold clampLab
  rw [clampTo_inRange hx, clampTo_inRange hy, clampTo_inRange hz]

theorem clampDevice_inRange {t : Triple} (h : deviceInRange t = true) : clampDevice t = t := by
  obtain ⟨hx, hy, hz⟩ := deviceInRange_iff.mp h
  unfold clampDevice
  rw [clampTo_inRange hx, clampTo_inRange hy, clampTo_inRange hz]

theorem labInRange_paperTransform (ns : Nodes) (trim : Trim) (t : Triple) :
    labInRange (paperTransform ns trim t).1 = true := labInRange_clampLab _

theorem deviceInRange_renderTransform (ns : Nodes) (t : Triple) : deviceInRange (renderTransform ns t) = true :=
  deviceInRange_clampDevice _

theorem deviceInRange_proofTransform (paper : Nodes) (trim : Trim) (display : Nodes) (t : Triple) :
    deviceInRange (proofTransform paper trim display t).2.2 = true := deviceInRange_clampDevice _

/-! ## Pixels (R69) -/

theorem word_triple (t : Triple) (h : deviceInRange t = true) : t.word.triple = t := by
  obtain ⟨x, y, z⟩ := t
  simp only [deviceInRange, inRange, Bool.and_eq_true, decide_eq_true_eq] at h
  simp only [Triple.word, PixelWord.triple, BitVec.toNat_ofInt, Triple.mk.injEq]
  omega

/-- A word outside the data enable passes. -/
theorem videoOut_blank (s : State) (l : LaneId) (v : VideoSignals) (h : v.dataEnable = false) :
    s.videoOut l v = some v := by
  unfold State.videoOut
  rw [h]
  rfl

/-- The data enable and the frame start pass. -/
theorem videoOut_signals {s : State} {l : LaneId} {v o : VideoSignals} (h : s.videoOut l v = some o) :
    o.dataEnable = v.dataEnable ∧ o.frameStart = v.frameStart := by
  unfold State.videoOut at h
  split at h
  · obtain ⟨w, _, rfl⟩ := Option.map_eq_some_iff.mp h
    exact ⟨rfl, rfl⟩
  · cases h; exact ⟨rfl, rfl⟩

/-- A pixel in PASS or FALLBACK passes. -/
theorem pixelOut_pass {s : State} {l : LaneId} (h : s.lanes[l].mode = .pass ∨ s.lanes[l].mode = .fallback)
    (w : PixelWord) : s.pixelOut l w = some w := by
  unfold State.pixelOut
  rcases h with h | h <;> rw [h]

end Sys2Proof.Machine
end

