-- ==== Sys2Proof/Laws/Evaluate.lean ====
section
/-! SUPPORT. What an evaluation judges (R122), and which deviation the hold takes (R124). -/
namespace Sys2Proof.Machine

/-! ## Stage 1 (R122) -/

theorem judge_eq_some {r : Record} {ns : Nodes} {i : Nat} {rd : Reading} {patch : Triple} {j : Judged} :
    judge r ns i rd patch = some j ↔
      rd.good = true ∧ j.patch = i ∧ j.deviation = deviation rd.lab (patchTarget r ns patch) ∧
        j.errorL = rd.lab.x - (patchTarget r ns patch).x := by
  unfold judge
  split
  · rename_i good
    rw [Option.some.injEq]
    exact ⟨fun e => by subst e; exact ⟨good, rfl, rfl, rfl⟩, fun ⟨_, hi, hd, he⟩ => by cases j; simp_all⟩
  · rename_i void
    exact ⟨fun e => by simp at e, fun ⟨good, _⟩ => absurd good void⟩

/-- A judged patch is a GOOD reading against its own patch. -/
theorem mem_judgePatches {r : Record} {ns : Nodes} {readings : List Reading} {j : Judged} :
    j ∈ judgePatches r ns readings ↔ ∃ rd patch, readings[j.patch]? = some rd ∧ r.patches[j.patch]? = some patch ∧
      rd.good = true ∧ j.deviation = deviation rd.lab (patchTarget r ns patch) ∧
        j.errorL = rd.lab.x - (patchTarget r ns patch).x := by
  simp only [judgePatches, List.mem_filterMap, Prod.exists, List.mem_zipIdx_iff_getElem?, List.getElem?_zip_eq_some,
    judge_eq_some]
  constructor
  · rintro ⟨rd, patch, i, ⟨hr, hp⟩, good, rfl, hd, he⟩
    exact ⟨rd, patch, hr, hp, good, hd, he⟩
  · rintro ⟨rd, patch, hr, hp, good, hd, he⟩
    exact ⟨rd, patch, j.patch, ⟨hr, hp⟩, good, rfl, hd, he⟩

/-- The patches are judged in index order, each at most once. -/
theorem judgePatches_sorted (r : Record) (ns : Nodes) (readings : List Reading) :
    (judgePatches r ns readings).Pairwise fun j k => j.patch < k.patch := by
  unfold judgePatches
  rw [List.pairwise_filterMap]
  have order : ((readings.zip r.patches).zipIdx).Pairwise fun x y => x.2 < y.2 := by
    rw [← List.pairwise_map (f := Prod.snd) (R := fun a b : Nat => a < b), List.zipIdx_map_snd]
    exact List.pairwise_lt_range'
  exact order.imp fun {x y} hxy a ha b hb => by
    rw [(judge_eq_some.mp ha).2.1, (judge_eq_some.mp hb).2.1]; exact hxy

/-! ## Stage 3 (R124) -/

theorem keepLarger_stays {h : Hold} {j : Judged} (le : j.deviation ≤ h.deviation) : keepLarger (some h) j = some h :=
  if_neg (Nat.not_lt.mpr le)

theorem keepLarger_moves {best : Option Hold} {j : Judged} (lt : ∀ h, best = some h → h.deviation < j.deviation) :
    keepLarger best j = some ⟨j.deviation, j.patch⟩ := by
  cases best with
  | none => rfl
  | some h => exact if_pos (lt h rfl)

/-- A hold at least as large as every deviation that follows stays. -/
theorem foldl_keepLarger_stays {h : Hold} : ∀ {js : List Judged}, (∀ j ∈ js, j.deviation ≤ h.deviation) →
    js.foldl keepLarger (some h) = some h
  | [], _ => rfl
  | j :: js, le => by
    rw [List.foldl_cons, keepLarger_stays (le j List.mem_cons_self)]
    exact foldl_keepLarger_stays fun k hk => le k (List.mem_cons_of_mem _ hk)

/-- Of a list in patch order the first largest deviation is kept. -/
theorem foldl_keepLarger_first {j : Judged} : ∀ {js : List Judged} {best : Option Hold}, j ∈ js →
    (∀ h, best = some h → h.deviation < j.deviation) →
    (∀ k ∈ js, k.deviation ≤ j.deviation ∧ (k.deviation = j.deviation → j.patch ≤ k.patch)) →
    js.Pairwise (fun j k => j.patch < k.patch) → js.foldl keepLarger best = some ⟨j.deviation, j.patch⟩
  | [], _, hj, _, _, _ => by cases hj
  | k :: js, best, hj, low, top, order => by
    rw [List.pairwise_cons] at order
    rw [List.foldl_cons]
    rcases List.mem_cons.mp hj with rfl | later
    · rw [keepLarger_moves low]
      exact foldl_keepLarger_stays fun m hm => (top m (List.mem_cons_of_mem _ hm)).1
    · have less : k.deviation < j.deviation :=
        lt_of_le_of_ne (top k List.mem_cons_self).1 fun e =>
          absurd ((top k List.mem_cons_self).2 e) (Nat.not_le.mpr (order.1 j later))
      refine foldl_keepLarger_first later (fun h hh => ?_) (fun m hm => top m (List.mem_cons_of_mem _ hm)) order.2
      unfold keepLarger at hh
      split at hh
      · cases hh; exact less
      · split at hh <;> cases hh
        · exact less
        · exact low _ rfl

/-- R124: the hold takes the largest deviation at the lowest patch index. -/
theorem worst_first {js : List Judged} {j : Judged} (hj : j ∈ js)
    (top : ∀ k ∈ js, k.deviation ≤ j.deviation ∧ (k.deviation = j.deviation → j.patch ≤ k.patch))
    (order : js.Pairwise fun j k => j.patch < k.patch) : worst js = some ⟨j.deviation, j.patch⟩ :=
  foldl_keepLarger_first hj (fun _ h => by cases h) top order

/-! ## The seven stages (R121) -/

theorem evaluation_stages (ns : Nodes) (readings : List Reading) (r : Record) :
    let js := judgePatches r ns readings
    let pass := stripPasses r js
    let held := stageHold pass js (stageCounters pass r)
    let windowed := stageWindow (failingPatches r js) held.1
    let whitened := stageWhite readings (stageMatch pass windowed.1)
    let last := stageTrim pass js whitened.1
    evaluation ns readings r =
      (last, held.2 ||| windowed.2 ||| whitened.2 ||| (if last.state = r.state then 0 else indMatchChanged)) := rfl

end Sys2Proof.Machine
end

