-- ==== Sys2Proof/Laws/Operands.lean ====
section
/-! SUPPORT. The field encodings, read back. -/
namespace Sys2Proof.Machine

theorem toNat_byteOf (n : Nat) (h : n < 256) : (byteOf n).toNat = n := by
  simp [byteOf, Nat.mod_eq_of_lt h]

/-- A number sent as a byte is read back. -/
theorem numberOf_byteOf {n : Nat} (k : Fin n) (h : n ≤ 256) : numberOf n (byteOf k.val) = some k := by
  have hk : (byteOf k.val).toNat = k.val := toNat_byteOf _ (by omega)
  unfold numberOf
  rw [dif_pos (by omega)]
  simp [hk]

@[simp] theorem numberOf_client (c : ClientId) : numberOf 8 (byteOf c.val) = some c := numberOf_byteOf c (by omega)
@[simp] theorem numberOf_handle (h : Handle) : numberOf 48 (byteOf h.val) = some h := numberOf_byteOf h (by omega)
@[simp] theorem numberOf_lane (l : LaneId) : numberOf 2 (byteOf l.val) = some l := numberOf_byteOf l (by omega)
@[simp] theorem numberOf_slot (n : SlotId) : numberOf 4 (byteOf n.val) = some n := numberOf_byteOf n (by omega)
@[simp] theorem numberOf_channel (c : ChannelId) : numberOf 6 (byteOf c.val) = some c := numberOf_byteOf c (by omega)

theorem numberOf_none {n : Nat} {b : Byte} (h : n ≤ b.toNat) : numberOf n b = none := by
  unfold numberOf
  rw [dif_neg (by omega)]

theorem numberOf_some {n : Nat} {b : Byte} {k : Fin n} (h : numberOf n b = some k) : b.toNat = k.val := by
  unfold numberOf at h
  split at h
  · simp only [Option.some.injEq] at h; rw [← h]
  · simp at h

@[simp] theorem onOff_encBool (b : Bool) : onOff (encBool b) = some b := by cases b <;> rfl
@[simp] theorem kindOf_encKind (k : Kind) : kindOf (encKind k) = some k := by cases k <;> rfl
@[simp] theorem overrideOf_encOverride (o : Override) : overrideOf (encOverride o) = some o := by cases o <;> rfl

/-- The sum of the bytes, as the frames' check reads it. -/
theorem byteSum_eq (bs : List Byte) : byteSum bs = bs.sum := by
  suffices h : ∀ (l : List Byte) (a : Byte), l.foldl (· + ·) a = a + l.sum by
    simpa [byteSum] using h bs 0
  intro l
  induction l with
  | nil => intro a; simp
  | cons b l ih => intro a; simp [ih, add_assoc]

/-- The check byte makes the sum 0. -/
theorem byteSum_withCheck (bs : List Byte) : byteSum (withCheck bs) = 0 := by
  simp [byteSum_eq, withCheck]

@[simp] theorem length_enc16 (v : Int) : (enc16 v).length = 2 := rfl
@[simp] theorem length_encTriple (t : Triple) : (encTriple t).length = 6 := rfl
@[simp] theorem length_encTrim (t : Trim) : (encTrim t).length = 8 := rfl
@[simp] theorem length_encCorrection (c : Correction) : (encCorrection c).length = 12 := rfl
@[simp] theorem length_fill (n : Nat) : (fill n).length = n := by simp [fill]
@[simp] theorem length_encOptTriple (t : Option Triple) : (encOptTriple t).length = 7 := by cases t <;> rfl
@[simp] theorem length_encHold (h : Option Hold) : (encHold h).length = 4 := by cases h <;> rfl

/-- A 16-bit field read back. -/
theorem enc16_toNat (n : Nat) (h : n < 65536) :
    ∃ a b : Byte, enc16 n = [a, b] ∧ u16 a b = n := by
  refine ⟨_, _, rfl, ?_⟩
  simp only [u16, BitVec.toNat_setWidth, BitVec.toNat_ushiftRight]
  have : (BitVec.ofInt 16 (n : Int)).toNat = n := by
    simp; omega
  rw [this]
  omega

/-- The two bytes of an unsigned field, high byte first. -/
theorem enc16_nat (n : Nat) : enc16 n = [byteOf (n / 256), byteOf n] := by
  have h : (BitVec.ofInt 16 (n : Int)).toNat = n % 65536 := by simp
  simp only [enc16, byteOf, List.cons.injEq, and_true]
  constructor <;> refine BitVec.eq_of_toNat_eq ?_ <;>
    simp only [BitVec.toNat_setWidth, BitVec.toNat_ushiftRight, BitVec.toNat_ofNat, h, Nat.shiftRight_eq_div_pow] <;> omega

/-- As many triples as six bytes each make. -/
theorem length_triplesOf (form : Byte → Byte → Byte → Byte → Byte → Byte → Triple) (n : Nat) (bs : List Byte)
    (h : bs.length = 6 * n) : (triplesOf form bs).length = n := by
  fun_induction triplesOf form bs generalizing n with
  | case1 a b c d e f rest ih =>
    obtain ⟨m, rfl⟩ : ∃ m, n = m + 1 := ⟨n - 1, by simp only [List.length_cons] at h; omega⟩
    rw [List.length_cons, ih m (by simp only [List.length_cons] at h; omega)]
  | case2 bs hshort =>
    rcases n with _ | m
    · rfl
    · exfalso
      rcases bs with _ | ⟨a, _ | ⟨b, _ | ⟨c, _ | ⟨d, _ | ⟨e, _ | ⟨f, rest⟩⟩⟩⟩⟩⟩
      case cons.cons.cons.cons.cons.cons => exact hshort a b c d e f rest rfl
      all_goals simp only [List.length_cons, List.length_nil] at h; omega

end Sys2Proof.Machine
end

