-- ==== Sys2Proof/Laws/State.lean ====
section
/-! SUPPORT. One lemma per field per update of the state, so that no proof unfolds a record update. -/
namespace Sys2Proof.Machine

section
variable (s : State) (h : Handle) (r : RecordSlot)
@[simp] theorem setRecord_records : (s.setRecord h r).records = s.records.set h r := rfl
@[simp] theorem setRecord_banks : (s.setRecord h r).banks = s.banks := rfl
@[simp] theorem setRecord_contexts : (s.setRecord h r).contexts = s.contexts := rfl
@[simp] theorem setRecord_lanes : (s.setRecord h r).lanes = s.lanes := rfl
@[simp] theorem setRecord_channels : (s.setRecord h r).channels = s.channels := rfl
@[simp] theorem setRecord_receiver : (s.setRecord h r).receiver = s.receiver := rfl
@[simp] theorem setRecord_slots : (s.setRecord h r).slots = s.slots := rfl
@[simp] theorem setRecord_global : (s.setRecord h r).global = s.global := rfl
@[simp] theorem setRecord_response : (s.setRecord h r).response = s.response := rfl
@[simp] theorem setRecord_clients : (s.setRecord h r).clients = s.clients := rfl
@[simp] theorem setRecord_sdo : (s.setRecord h r).sdo = s.sdo := rfl
@[simp] theorem setRecord_procedure : (s.setRecord h r).procedure = s.procedure := rfl
@[simp] theorem setRecord_conditions : (s.setRecord h r).conditions = s.conditions := rfl
@[simp] theorem setRecord_pending : (s.setRecord h r).pending = s.pending := rfl
end

section
variable (s : State) (b : BankId) (ns : Nodes)
@[simp] theorem setBank_records : (s.setBank b ns).records = s.records := rfl
@[simp] theorem setBank_banks : (s.setBank b ns).banks = s.banks.set b ns := rfl
@[simp] theorem setBank_contexts : (s.setBank b ns).contexts = s.contexts := rfl
@[simp] theorem setBank_lanes : (s.setBank b ns).lanes = s.lanes := rfl
@[simp] theorem setBank_channels : (s.setBank b ns).channels = s.channels := rfl
@[simp] theorem setBank_receiver : (s.setBank b ns).receiver = s.receiver := rfl
@[simp] theorem setBank_slots : (s.setBank b ns).slots = s.slots := rfl
@[simp] theorem setBank_global : (s.setBank b ns).global = s.global := rfl
@[simp] theorem setBank_response : (s.setBank b ns).response = s.response := rfl
@[simp] theorem setBank_clients : (s.setBank b ns).clients = s.clients := rfl
@[simp] theorem setBank_sdo : (s.setBank b ns).sdo = s.sdo := rfl
@[simp] theorem setBank_procedure : (s.setBank b ns).procedure = s.procedure := rfl
@[simp] theorem setBank_conditions : (s.setBank b ns).conditions = s.conditions := rfl
@[simp] theorem setBank_pending : (s.setBank b ns).pending = s.pending := rfl
end

section
variable (s : State) (c : ContextId) (x : Context)
@[simp] theorem setContext_records : (s.setContext c x).records = s.records := rfl
@[simp] theorem setContext_banks : (s.setContext c x).banks = s.banks := rfl
@[simp] theorem setContext_contexts : (s.setContext c x).contexts = s.contexts.set c x := rfl
@[simp] theorem setContext_lanes : (s.setContext c x).lanes = s.lanes := rfl
@[simp] theorem setContext_channels : (s.setContext c x).channels = s.channels := rfl
@[simp] theorem setContext_receiver : (s.setContext c x).receiver = s.receiver := rfl
@[simp] theorem setContext_slots : (s.setContext c x).slots = s.slots := rfl
@[simp] theorem setContext_global : (s.setContext c x).global = s.global := rfl
@[simp] theorem setContext_response : (s.setContext c x).response = s.response := rfl
@[simp] theorem setContext_clients : (s.setContext c x).clients = s.clients := rfl
@[simp] theorem setContext_sdo : (s.setContext c x).sdo = s.sdo := rfl
@[simp] theorem setContext_procedure : (s.setContext c x).procedure = s.procedure := rfl
@[simp] theorem setContext_conditions : (s.setContext c x).conditions = s.conditions := rfl
@[simp] theorem setContext_pending : (s.setContext c x).pending = s.pending := rfl
end

section
variable (s : State) (l : LaneId) (x : Lane)
@[simp] theorem setLane_records : (s.setLane l x).records = s.records := rfl
@[simp] theorem setLane_banks : (s.setLane l x).banks = s.banks := rfl
@[simp] theorem setLane_contexts : (s.setLane l x).contexts = s.contexts := rfl
@[simp] theorem setLane_lanes : (s.setLane l x).lanes = s.lanes.set l x := rfl
@[simp] theorem setLane_channels : (s.setLane l x).channels = s.channels := rfl
@[simp] theorem setLane_receiver : (s.setLane l x).receiver = s.receiver := rfl
@[simp] theorem setLane_slots : (s.setLane l x).slots = s.slots := rfl
@[simp] theorem setLane_global : (s.setLane l x).global = s.global := rfl
@[simp] theorem setLane_response : (s.setLane l x).response = s.response := rfl
@[simp] theorem setLane_clients : (s.setLane l x).clients = s.clients := rfl
@[simp] theorem setLane_sdo : (s.setLane l x).sdo = s.sdo := rfl
@[simp] theorem setLane_procedure : (s.setLane l x).procedure = s.procedure := rfl
@[simp] theorem setLane_conditions : (s.setLane l x).conditions = s.conditions := rfl
@[simp] theorem setLane_pending : (s.setLane l x).pending = s.pending := rfl
end

section
variable (s : State) (c : ChannelId) (x : Channel)
@[simp] theorem setChannel_records : (s.setChannel c x).records = s.records := rfl
@[simp] theorem setChannel_banks : (s.setChannel c x).banks = s.banks := rfl
@[simp] theorem setChannel_contexts : (s.setChannel c x).contexts = s.contexts := rfl
@[simp] theorem setChannel_lanes : (s.setChannel c x).lanes = s.lanes := rfl
@[simp] theorem setChannel_channels : (s.setChannel c x).channels = s.channels.set c x := rfl
@[simp] theorem setChannel_receiver : (s.setChannel c x).receiver = s.receiver := rfl
@[simp] theorem setChannel_slots : (s.setChannel c x).slots = s.slots := rfl
@[simp] theorem setChannel_global : (s.setChannel c x).global = s.global := rfl
@[simp] theorem setChannel_response : (s.setChannel c x).response = s.response := rfl
@[simp] theorem setChannel_clients : (s.setChannel c x).clients = s.clients := rfl
@[simp] theorem setChannel_sdo : (s.setChannel c x).sdo = s.sdo := rfl
@[simp] theorem setChannel_procedure : (s.setChannel c x).procedure = s.procedure := rfl
@[simp] theorem setChannel_conditions : (s.setChannel c x).conditions = s.conditions := rfl
@[simp] theorem setChannel_pending : (s.setChannel c x).pending = s.pending := rfl
end

section
variable (s : State) (n : SlotId) (x : PrinterSlot)
@[simp] theorem setSlot_records : (s.setSlot n x).records = s.records := rfl
@[simp] theorem setSlot_banks : (s.setSlot n x).banks = s.banks := rfl
@[simp] theorem setSlot_contexts : (s.setSlot n x).contexts = s.contexts := rfl
@[simp] theorem setSlot_lanes : (s.setSlot n x).lanes = s.lanes := rfl
@[simp] theorem setSlot_channels : (s.setSlot n x).channels = s.channels := rfl
@[simp] theorem setSlot_receiver : (s.setSlot n x).receiver = s.receiver := rfl
@[simp] theorem setSlot_slots : (s.setSlot n x).slots = s.slots.set n x := rfl
@[simp] theorem setSlot_global : (s.setSlot n x).global = s.global := rfl
@[simp] theorem setSlot_response : (s.setSlot n x).response = s.response := rfl
@[simp] theorem setSlot_clients : (s.setSlot n x).clients = s.clients := rfl
@[simp] theorem setSlot_sdo : (s.setSlot n x).sdo = s.sdo := rfl
@[simp] theorem setSlot_procedure : (s.setSlot n x).procedure = s.procedure := rfl
@[simp] theorem setSlot_conditions : (s.setSlot n x).conditions = s.conditions := rfl
@[simp] theorem setSlot_pending : (s.setSlot n x).pending = s.pending := rfl
end

section
variable (s : State) (h : Handle) (r : Record)
@[simp] theorem putRecord_records : (s.putRecord h r).records = s.records.set h { s.records[h] with content := .live r } := rfl
@[simp] theorem putRecord_banks : (s.putRecord h r).banks = s.banks := rfl
@[simp] theorem putRecord_contexts : (s.putRecord h r).contexts = s.contexts := rfl
@[simp] theorem putRecord_lanes : (s.putRecord h r).lanes = s.lanes := rfl
@[simp] theorem putRecord_channels : (s.putRecord h r).channels = s.channels := rfl
@[simp] theorem putRecord_receiver : (s.putRecord h r).receiver = s.receiver := rfl
@[simp] theorem putRecord_slots : (s.putRecord h r).slots = s.slots := rfl
@[simp] theorem putRecord_global : (s.putRecord h r).global = s.global := rfl
@[simp] theorem putRecord_response : (s.putRecord h r).response = s.response := rfl
@[simp] theorem putRecord_clients : (s.putRecord h r).clients = s.clients := rfl
@[simp] theorem putRecord_sdo : (s.putRecord h r).sdo = s.sdo := rfl
@[simp] theorem putRecord_procedure : (s.putRecord h r).procedure = s.procedure := rfl
@[simp] theorem putRecord_conditions : (s.putRecord h r).conditions = s.conditions := rfl
@[simp] theorem putRecord_pending : (s.putRecord h r).pending = s.pending := rfl
end

section
variable (s : State) (n : Nat)
@[simp] theorem driveFill_records : (s.driveFill n).records = s.records := rfl
@[simp] theorem driveFill_banks : (s.driveFill n).banks = s.banks := rfl
@[simp] theorem driveFill_contexts : (s.driveFill n).contexts = s.contexts := rfl
@[simp] theorem driveFill_lanes : (s.driveFill n).lanes = s.lanes := rfl
@[simp] theorem driveFill_channels : (s.driveFill n).channels = s.channels := rfl
@[simp] theorem driveFill_receiver : (s.driveFill n).receiver = s.receiver := rfl
@[simp] theorem driveFill_slots : (s.driveFill n).slots = s.slots := rfl
@[simp] theorem driveFill_global : (s.driveFill n).global = s.global := rfl
@[simp] theorem driveFill_response : (s.driveFill n).response = s.response := rfl
@[simp] theorem driveFill_clients : (s.driveFill n).clients = s.clients := rfl
@[simp] theorem driveFill_sdo : (s.driveFill n).sdo = fill n := rfl
@[simp] theorem driveFill_procedure : (s.driveFill n).procedure = s.procedure := rfl
@[simp] theorem driveFill_conditions : (s.driveFill n).conditions = s.conditions := rfl
@[simp] theorem driveFill_pending : (s.driveFill n).pending = s.pending := rfl
end

section
variable (s : State)
@[simp] theorem ignoreFrame_records : (s.ignoreFrame).records = s.records := rfl
@[simp] theorem ignoreFrame_banks : (s.ignoreFrame).banks = s.banks := rfl
@[simp] theorem ignoreFrame_contexts : (s.ignoreFrame).contexts = s.contexts := rfl
@[simp] theorem ignoreFrame_lanes : (s.ignoreFrame).lanes = s.lanes := rfl
@[simp] theorem ignoreFrame_channels : (s.ignoreFrame).channels = s.channels := rfl
@[simp] theorem ignoreFrame_receiver : (s.ignoreFrame).receiver = s.receiver := rfl
@[simp] theorem ignoreFrame_slots : (s.ignoreFrame).slots = s.slots := rfl
@[simp] theorem ignoreFrame_global : (s.ignoreFrame).global = s.global := rfl
@[simp] theorem ignoreFrame_response : (s.ignoreFrame).response = s.response := rfl
@[simp] theorem ignoreFrame_clients : (s.ignoreFrame).clients = s.clients := rfl
@[simp] theorem ignoreFrame_sdo : (s.ignoreFrame).sdo = [] := rfl
@[simp] theorem ignoreFrame_procedure : (s.ignoreFrame).procedure = s.procedure := rfl
@[simp] theorem ignoreFrame_conditions : (s.ignoreFrame).conditions = s.conditions := rfl
@[simp] theorem ignoreFrame_pending : (s.ignoreFrame).pending = s.pending := rfl
end

section
variable (s : State) (k : Byte) (o : OutcomeCode) (g : Nat) (cs : List Cause) (bs : List Byte)
@[simp] theorem respond_records : (s.respond k o g cs bs).records = s.records := rfl
@[simp] theorem respond_banks : (s.respond k o g cs bs).banks = s.banks := rfl
@[simp] theorem respond_contexts : (s.respond k o g cs bs).contexts = s.contexts := rfl
@[simp] theorem respond_lanes : (s.respond k o g cs bs).lanes = s.lanes := rfl
@[simp] theorem respond_channels : (s.respond k o g cs bs).channels = s.channels := rfl
@[simp] theorem respond_receiver : (s.respond k o g cs bs).receiver = s.receiver := rfl
@[simp] theorem respond_slots : (s.respond k o g cs bs).slots = s.slots := rfl
@[simp] theorem respond_global : (s.respond k o g cs bs).global = s.global := rfl
@[simp] theorem respond_response : (s.respond k o g cs bs).response = .ready ⟨k, o, g, cs, bs⟩ := rfl
@[simp] theorem respond_clients : (s.respond k o g cs bs).clients = s.clients := rfl
@[simp] theorem respond_sdo : (s.respond k o g cs bs).sdo = s.sdo := rfl
@[simp] theorem respond_procedure : (s.respond k o g cs bs).procedure = s.procedure := rfl
@[simp] theorem respond_conditions : (s.respond k o g cs bs).conditions = s.conditions := rfl
@[simp] theorem respond_pending : (s.respond k o g cs bs).pending = s.pending := rfl
end

section
variable (s : State) (x : LinkFault)
@[simp] theorem discardFrame_records : (s.discardFrame x).records = s.records := rfl
@[simp] theorem discardFrame_banks : (s.discardFrame x).banks = s.banks := rfl
@[simp] theorem discardFrame_contexts : (s.discardFrame x).contexts = s.contexts := rfl
@[simp] theorem discardFrame_lanes : (s.discardFrame x).lanes = s.lanes := rfl
@[simp] theorem discardFrame_channels : (s.discardFrame x).channels = s.channels := rfl
@[simp] theorem discardFrame_receiver : (s.discardFrame x).receiver = s.receiver := rfl
@[simp] theorem discardFrame_slots : (s.discardFrame x).slots = s.slots := rfl
@[simp] theorem discardFrame_global : (s.discardFrame x).global = { s.global with pending := s.global.pending ||| indLinkFrameError, linkError := some x } := rfl
@[simp] theorem discardFrame_response : (s.discardFrame x).response = s.response := rfl
@[simp] theorem discardFrame_clients : (s.discardFrame x).clients = s.clients := rfl
@[simp] theorem discardFrame_sdo : (s.discardFrame x).sdo = s.sdo := rfl
@[simp] theorem discardFrame_procedure : (s.discardFrame x).procedure = s.procedure := rfl
@[simp] theorem discardFrame_conditions : (s.discardFrame x).conditions = s.conditions := rfl
@[simp] theorem discardFrame_pending : (s.discardFrame x).pending = s.pending := rfl
end

section
variable (s : State) (c : ChannelId) (x : AbandonCause)
@[simp] theorem abandonStrip_records : (s.abandonStrip c x).records = s.records := rfl
@[simp] theorem abandonStrip_banks : (s.abandonStrip c x).banks = s.banks := rfl
@[simp] theorem abandonStrip_contexts : (s.abandonStrip c x).contexts = s.contexts := rfl
@[simp] theorem abandonStrip_lanes : (s.abandonStrip c x).lanes = s.lanes := rfl
@[simp] theorem abandonStrip_channels : (s.abandonStrip c x).channels = s.channels.set c (s.channels[c].abandonOpen x) := rfl
@[simp] theorem abandonStrip_receiver : (s.abandonStrip c x).receiver = s.receiver := rfl
@[simp] theorem abandonStrip_slots : (s.abandonStrip c x).slots = s.slots := rfl
@[simp] theorem abandonStrip_global : (s.abandonStrip c x).global = s.global := rfl
@[simp] theorem abandonStrip_response : (s.abandonStrip c x).response = s.response := rfl
@[simp] theorem abandonStrip_clients : (s.abandonStrip c x).clients = s.clients := rfl
@[simp] theorem abandonStrip_sdo : (s.abandonStrip c x).sdo = s.sdo := rfl
@[simp] theorem abandonStrip_procedure : (s.abandonStrip c x).procedure = s.procedure := rfl
@[simp] theorem abandonStrip_conditions : (s.abandonStrip c x).conditions = s.conditions := rfl
@[simp] theorem abandonStrip_pending : (s.abandonStrip c x).pending = s.pending := rfl
end

section
variable (s : State) (h : Handle)
@[simp] theorem abandonAttached_records : (s.abandonAttached h).records = s.records := rfl
@[simp] theorem abandonAttached_banks : (s.abandonAttached h).banks = s.banks := rfl
@[simp] theorem abandonAttached_contexts : (s.abandonAttached h).contexts = s.contexts := rfl
@[simp] theorem abandonAttached_lanes : (s.abandonAttached h).lanes = s.lanes := rfl
@[simp] theorem abandonAttached_receiver : (s.abandonAttached h).receiver = s.receiver := rfl
@[simp] theorem abandonAttached_slots : (s.abandonAttached h).slots = s.slots := rfl
@[simp] theorem abandonAttached_global : (s.abandonAttached h).global = s.global := rfl
@[simp] theorem abandonAttached_response : (s.abandonAttached h).response = s.response := rfl
@[simp] theorem abandonAttached_clients : (s.abandonAttached h).clients = s.clients := rfl
@[simp] theorem abandonAttached_sdo : (s.abandonAttached h).sdo = s.sdo := rfl
@[simp] theorem abandonAttached_procedure : (s.abandonAttached h).procedure = s.procedure := rfl
@[simp] theorem abandonAttached_conditions : (s.abandonAttached h).conditions = s.conditions := rfl
@[simp] theorem abandonAttached_pending : (s.abandonAttached h).pending = s.pending := rfl
end

section
variable (s : State)
@[simp] theorem endDrains_banks : (s.endDrains).banks = s.banks := by
  rw [State.endDrains]
@[simp] theorem endDrains_contexts : (s.endDrains).contexts = s.contexts := by
  rw [State.endDrains]
@[simp] theorem endDrains_lanes : (s.endDrains).lanes = s.lanes := by
  rw [State.endDrains]
@[simp] theorem endDrains_channels : (s.endDrains).channels = s.channels := by
  rw [State.endDrains]
@[simp] theorem endDrains_receiver : (s.endDrains).receiver = s.receiver := by
  rw [State.endDrains]
@[simp] theorem endDrains_slots : (s.endDrains).slots = s.slots := by
  rw [State.endDrains]
@[simp] theorem endDrains_global : (s.endDrains).global = s.global := by
  rw [State.endDrains]
@[simp] theorem endDrains_response : (s.endDrains).response = s.response := by
  rw [State.endDrains]
@[simp] theorem endDrains_clients : (s.endDrains).clients = s.clients := by
  rw [State.endDrains]
@[simp] theorem endDrains_sdo : (s.endDrains).sdo = s.sdo := by
  rw [State.endDrains]
@[simp] theorem endDrains_procedure : (s.endDrains).procedure = s.procedure := by
  rw [State.endDrains]
@[simp] theorem endDrains_conditions : (s.endDrains).conditions = s.conditions := by
  rw [State.endDrains]
@[simp] theorem endDrains_pending : (s.endDrains).pending = s.pending := by
  rw [State.endDrains]
end

section
variable (old s : State)
@[simp] theorem settleLines_records : (old.settleLines s).records = s.records := by
  rw [State.settleLines]
@[simp] theorem settleLines_banks : (old.settleLines s).banks = s.banks := by
  rw [State.settleLines]
@[simp] theorem settleLines_contexts : (old.settleLines s).contexts = s.contexts := by
  rw [State.settleLines]
@[simp] theorem settleLines_lanes : (old.settleLines s).lanes = s.lanes := by
  rw [State.settleLines]
@[simp] theorem settleLines_channels : (old.settleLines s).channels = s.channels := by
  rw [State.settleLines]
@[simp] theorem settleLines_receiver : (old.settleLines s).receiver = s.receiver := by
  rw [State.settleLines]
@[simp] theorem settleLines_global : (old.settleLines s).global = s.global := by
  rw [State.settleLines]
@[simp] theorem settleLines_response : (old.settleLines s).response = s.response := by
  rw [State.settleLines]
@[simp] theorem settleLines_clients : (old.settleLines s).clients = s.clients := by
  rw [State.settleLines]
@[simp] theorem settleLines_sdo : (old.settleLines s).sdo = s.sdo := by
  rw [State.settleLines]
@[simp] theorem settleLines_procedure : (old.settleLines s).procedure = s.procedure := by
  rw [State.settleLines]
@[simp] theorem settleLines_conditions : (old.settleLines s).conditions = s.conditions := by
  rw [State.settleLines]
@[simp] theorem settleLines_pending : (old.settleLines s).pending = s.pending := by
  rw [State.settleLines]
end

end Sys2Proof.Machine
end

