-- ==== Sys2Proof/Laws/Link.lean ====
section
/-! SUPPORT. The host link: what a request command does, from the frame to the response, said once. -/
namespace Sys2Proof.Machine

/-! ## The checks -/

theorem refuseIf_one {g : Nat} {c : Cause} {b : Bool} {go : Verdict} :
    refuseIf g [(c, b)] go = if b then .refused g [c] else go := by
  cases b <;> rfl

theorem refuseIf_two {g : Nat} {c d : Cause} {a b : Bool} {go : Verdict} :
    refuseIf g [(c, a), (d, b)] go =
      if a then (if b then .refused g [c, d] else .refused g [c]) else if b then .refused g [d] else go := by
  cases a <;> cases b <;> rfl

theorem refuseIf_three {g : Nat} {c d e : Cause} {x y z : Bool} {go : Verdict} :
    refuseIf g [(c, x), (d, y), (e, z)] go =
      if x || y || z then .refused g (failing [(c, x), (d, y), (e, z)]) else go := by
  cases x <;> cases y <;> cases z <;> rfl

/-- A list of checks either refuses with its failing causes or goes on. -/
theorem refuseIf_eq (g : Nat) (checks : List (Cause × Bool)) (go : Verdict) :
    refuseIf g checks go = if failing checks = [] then go else .refused g (failing checks) := by
  unfold refuseIf
  split <;> simp_all

/-! ## Records named by a handle byte -/

theorem record?_live {s : State} {h : Handle} {r : Record} (hl : s.Live h r) : s.record? h = some r := by
  unfold State.record?; rw [hl]

theorem live_of_record? {s : State} {h : Handle} {r : Record} (hr : s.record? h = some r) : s.Live h r := by
  unfold State.record? at hr
  unfold State.Live
  split at hr <;> simp_all

@[simp] theorem target_byte (s : State) (h : Handle) :
    s.target (byteOf h.val) = (s.record? h).map fun r => (h, r) := by
  simp [State.target]

theorem target_live {s : State} {h : Handle} {r : Record} (hl : s.Live h r) :
    s.target (byteOf h.val) = some (h, r) := by
  simp [record?_live hl]

theorem target_some {s : State} {b : Byte} {h : Handle} {r : Record} (ht : s.target b = some (h, r)) :
    s.Live h r ∧ b.toNat = h.val := by
  unfold State.target at ht
  match hn : numberOf 48 b with
  | none => simp [hn] at ht
  | some k =>
    simp only [hn, Option.bind_some, Option.map_eq_some_iff, Prod.mk.injEq] at ht
    obtain ⟨q, hq, rfl, rfl⟩ := ht
    exact ⟨live_of_record? hq, numberOf_some hn⟩

theorem onRecord_live {s : State} {h : Handle} {r : Record} (hl : s.Live h r) (allowed : Record → Bool)
    (go : Handle → Record → Verdict) :
    onRecord s (byteOf h.val) allowed go = if allowed r then go h r else .refused 3 [.notPermitted] := by
  unfold onRecord
  rw [target_live hl]
  cases ha : allowed r <;> simp [refuseIf_one, ha]

/-! ## The driven bytes change nothing a block reads -/

@[simp] theorem record?_driveFill (s : State) (n : Nat) (h : Handle) : (s.driveFill n).record? h = s.record? h := rfl
@[simp] theorem target_driveFill (s : State) (n : Nat) (b : Byte) : (s.driveFill n).target b = s.target b := rfl
@[simp] theorem caller_driveFill (s : State) (n : Nat) (c : ClientId) : (s.driveFill n).caller c = s.caller c := rfl

theorem canLookup_iff (s : State) (c : ClientId) (r : Record) :
    (s.caller c).canLookup r = true ↔ MayLookup s c r := by
  simp [State.caller, Caller.canLookup, MayLookup, IsAdmin, or_assoc]

theorem canChange_iff (s : State) (c : ClientId) (r : Record) :
    (s.caller c).canChange r = true ↔ MayChange s c r := by
  simp [State.caller, Caller.canChange, MayChange, IsAdmin]

theorem isOwner_iff (s : State) (c : ClientId) (r : Record) :
    (s.caller c).isOwner r = true ↔ MayOwn s c r := by
  unfold Caller.isOwner MayOwn IsAdmin State.caller
  rw [Bool.or_eq_true]
  exact or_congr Iff.rfl (by constructor <;> intro h <;> simpa using h)

/-! ## A request is taken -/

/-- A request of client c in a state that takes it, with a body the frame can carry. -/
theorem takeRequest_taken {s : State} (ht : s.Takes) (kind : Byte) (run : Block) (c : ClientId) (body : List Byte)
    (hb : body.length ≤ 200) :
    takeRequest kind run (clientByte c) body s =
      complete kind (s.caller c) (s.driveFill (5 + body.length))
        (run (s.caller c) body (s.driveFill (5 + body.length))) := by
  obtain ⟨hp, hr⟩ := ht
  unfold takeRequest
  rw [if_neg (by simp [hp]), if_neg (by simp [Config.bodyMax]; omega)]
  have : s.busy = false := by
    unfold State.busy; split <;> simp_all
  simp [this, judgeClient]

theorem complete_refused (s : State) (kind : Byte) (c : ClientId) (n g : Nat) (cs : List Cause) :
    complete kind (s.caller c) (s.driveFill (5 + n)) (.refused g cs) = s.refuses c kind n g cs := by
  unfold complete State.noteFault State.refuses
  simp only [State.caller]
  split <;> simp_all [State.respond, State.driveFill, indClientFault]

theorem complete_done (kind : Byte) (q : Caller) (s t : State) (result : List Byte) :
    complete kind q s (.done result t) = t.respond kind .done 0 [] result := rfl

theorem complete_adjusted (kind : Byte) (q : Caller) (s t : State) (result : List Byte) :
    complete kind q s (.adjusted result t) = t.respond kind .doneAdjusted 0 [] result := rfl

theorem complete_accept (kind : Byte) (q : Caller) (s t : State) (clamped : Bool) (result : List Byte) :
    complete kind q s (accept clamped result t) =
      t.respond kind (if clamped then .doneAdjusted else .done) 0 [] result := by
  cases clamped <;> rfl

/-- A taken request whose block answers DONE. -/
theorem request_done {s t : State} (ht : s.Takes) {kind : Byte} {run : Block} {c : ClientId} {body result : List Byte}
    (hb : body.length ≤ 200)
    (h : run (s.caller c) body (s.driveFill (5 + body.length)) = .done result t) :
    takeRequest kind run (clientByte c) body s = t.respond kind .done 0 [] result := by
  rw [takeRequest_taken ht kind run c body hb, h]; rfl

/-- A taken request whose block answers DONE, or DONE_ADJUSTED when it clamped. -/
theorem request_accept {s t : State} (ht : s.Takes) {kind : Byte} {run : Block} {c : ClientId}
    {body result : List Byte} {clamped : Bool} (hb : body.length ≤ 200)
    (h : run (s.caller c) body (s.driveFill (5 + body.length)) = accept clamped result t) :
    takeRequest kind run (clientByte c) body s =
      t.respond kind (if clamped then .doneAdjusted else .done) 0 [] result := by
  rw [takeRequest_taken ht kind run c body hb, h, complete_accept]

/-- A taken request whose block refuses. -/
theorem request_refused {s : State} (ht : s.Takes) {kind : Byte} {run : Block} {c : ClientId} {body : List Byte}
    {g : Nat} {cs : List Cause} (hb : body.length ≤ 200)
    (h : run (s.caller c) body (s.driveFill (5 + body.length)) = .refused g cs) :
    takeRequest kind run (clientByte c) body s = s.refuses c kind body.length g cs := by
  rw [takeRequest_taken ht kind run c body hb, h, complete_refused]

/-- Every command answers a next state. -/
theorem exec_next (i : Instr) (s : State) : ∃ t, exec i s = .next t := by
  cases i <;> exact ⟨_, rfl⟩

/-! ## The kinds that carry several requests (R188) -/

theorem readAnyUnit_lane (q : Caller) (rest : List Byte) (s : State) :
    readAnyUnit q (0x00 :: rest) s = readLane q (0x00 :: rest) s := by
  rcases rest with _ | ⟨b, _ | ⟨_, _⟩⟩ <;> rfl

theorem readAnyUnit_slot (q : Caller) (rest : List Byte) (s : State) :
    readAnyUnit q (0x01 :: rest) s = readSlot q (0x01 :: rest) s := by
  rcases rest with _ | ⟨b, _ | ⟨_, _⟩⟩ <;> rfl

theorem readAnyUnit_channel (q : Caller) (rest : List Byte) (s : State) :
    readAnyUnit q (0x02 :: rest) s = readChannel q (0x02 :: rest) s := by
  rcases rest with _ | ⟨b, _ | ⟨_, _⟩⟩ <;> rfl

theorem indicationOperation_ack (q : Caller) (rest : List Byte) (s : State) :
    indicationOperation q (0x01 :: rest) s = ackIndications q (0x01 :: rest) s := by
  rcases rest with _ | ⟨cls, _ | ⟨number, _ | ⟨set, _ | ⟨_, _⟩⟩⟩⟩ <;> rfl

theorem indicationOperation_enables (q : Caller) (rest : List Byte) (s : State) :
    indicationOperation q (0x02 :: rest) s = setEnables q (0x02 :: rest) s := by
  rcases rest with _ | ⟨cls, _ | ⟨number, _ | ⟨set, _ | ⟨_, _⟩⟩⟩⟩ <;> rfl

/-- A request depends on its block by what the block answers to this body alone. -/
theorem takeRequest_congr {run run' : Block} {body : List Byte} (h : ∀ q t, run q body t = run' q body t)
    (kind client : Byte) (s : State) : takeRequest kind run client body s = takeRequest kind run' client body s := by
  unfold takeRequest judgeClient
  simp only [h]

/-- What a request command is: the request of its kind, taken by the block of that kind. -/
theorem exec_request {i : Instr} {kind client : Byte} {body : List Byte} (h : requestOf i = some (kind, client, body))
    (s : State) : ∃ run, blockOf kind = some run ∧ exec i s = .next (takeRequest kind run client body s) := by
  cases i <;> simp only [requestOf, Option.some.injEq, Prod.mk.injEq, reduceCtorEq] at h <;>
    obtain ⟨rfl, rfl, rfl⟩ := h <;> refine ⟨_, rfl, ?_⟩
  case readLane => exact congrArg _ (takeRequest_congr (fun q t => (readAnyUnit_lane q _ t).symm) _ _ s)
  case readSlot => exact congrArg _ (takeRequest_congr (fun q t => (readAnyUnit_slot q _ t).symm) _ _ s)
  case readChannel => exact congrArg _ (takeRequest_congr (fun q t => (readAnyUnit_channel q _ t).symm) _ _ s)
  case ackIndications => exact congrArg _ (takeRequest_congr (fun q t => (indicationOperation_ack q _ t).symm) _ _ s)
  case setEnables => exact congrArg _ (takeRequest_congr (fun q t => (indicationOperation_enables q _ t).symm) _ _ s)
  all_goals rfl

/-- R171: a well-formed request command is one whose body the frame can carry. -/
theorem wf_request {i : Instr} {kind client : Byte} {body : List Byte} (h : requestOf i = some (kind, client, body)) :
    i.wf = true ↔ body.length ≤ 200 := by
  unfold Instr.wf
  rw [h]
  exact decide_eq_true_iff

/-! ## A whole frame (R170, R171) -/

/-- A frame that overlaps a procedure changes SDO alone. -/
theorem hostFrame_overlap (bytes : List Byte) (extraEdges : Bool) (driven : Nat) (s : State) :
    hostFrame ⟨bytes, extraEdges, some driven⟩ s = s.driveFill driven := rfl

/-- A frame within a procedure changes SDO alone. -/
theorem hostFrame_held (bytes : List Byte) (extraEdges : Bool) {s : State} (h : s.procedure ≠ none) :
    hostFrame ⟨bytes, extraEdges, none⟩ s = s.ignoreFrame := by
  unfold hostFrame
  cases hp : s.procedure with
  | none => exact absurd hp h
  | some p => rfl

/-- A frame that meets no procedure is judged by its bytes. -/
theorem hostFrame_free (bytes : List Byte) (extraEdges : Bool) {s : State} (h : s.procedure = none) :
    hostFrame ⟨bytes, extraEdges, none⟩ s = judgeFrame bytes extraEdges s := by
  unfold hostFrame
  rw [h]
  rfl

/-- R173: a whole frame of type 0x6C is a fetch. -/
theorem judgeFrame_fetch (after : List Byte) (extraEdges : Bool) (s : State) :
    judgeFrame (0x6C :: after) extraEdges s = fetchFrame after s := rfl

end Sys2Proof.Machine
end

