-- ==== Sys2Proof/Laws/Nodes.lean ====
section
/-! SUPPORT. The canonical form of a bank: kept by every write, and read back. -/
namespace Sys2Proof.Machine

theorem wfFrom_mono {lo hi : Nat} (h : lo ≤ hi) : ∀ ns : Nodes, Nodes.wfFrom hi ns = true → Nodes.wfFrom lo ns = true
  | [], _ => rfl
  | (n, t) :: rest, hw => by
    simp only [Nodes.wfFrom, Bool.and_eq_true, decide_eq_true_eq] at hw ⊢
    exact ⟨⟨⟨by omega, hw.1.1.2⟩, hw.1.2⟩, hw.2⟩

/-- A node below the first of a canonical list is the zero triple. -/
theorem read_below {lo n : Nat} (h : n < lo) : ∀ ns : Nodes, Nodes.wfFrom lo ns = true → ns.read n = Triple.zero
  | [], _ => rfl
  | (m, t) :: rest, hw => by
    simp only [Nodes.wfFrom, Bool.and_eq_true, decide_eq_true_eq] at hw
    simp only [Nodes.read, if_neg (by omega : ¬ m = n)]
    exact read_below (by omega) rest hw.2

theorem wfFrom_cons {lo n : Nat} {t : Triple} {rest : Nodes} (hl : lo ≤ n) (hn : n < Config.nodes)
    (hr : Nodes.wfFrom (n + 1) rest = true) : Nodes.wfFrom lo (Nodes.cons n t rest) = true := by
  unfold Nodes.cons
  split
  · exact wfFrom_mono (by omega) rest hr
  · rename_i h
    simp only [Nodes.wfFrom, Bool.and_eq_true, decide_eq_true_eq]
    exact ⟨⟨⟨hl, hn⟩, h⟩, hr⟩

theorem read_cons {n : Nat} {t : Triple} {rest : Nodes} (hr : Nodes.wfFrom (n + 1) rest = true) (k : Nat) :
    (Nodes.cons n t rest).read k = if k = n then t else rest.read k := by
  unfold Nodes.cons
  split
  · rename_i h
    split
    · rename_i hk; rw [h, hk]; exact read_below (by omega) rest hr
    · rfl
  · simp only [Nodes.read]
    by_cases hk : n = k
    · simp [hk]
    · simp [hk, Ne.symm hk]

/-- A write of a node below 729 keeps the form. -/
theorem wfFrom_write {n : Nat} (hn : n < Config.nodes) (t : Triple) :
    ∀ (ns : Nodes) (lo : Nat), lo ≤ n → Nodes.wfFrom lo ns = true → Nodes.wfFrom lo (ns.write n t) = true
  | [], lo, hl, _ => wfFrom_cons hl hn rfl
  | (m, u) :: rest, lo, hl, hw => by
    simp only [Nodes.wfFrom, Bool.and_eq_true, decide_eq_true_eq] at hw
    simp only [Nodes.write]
    split
    · refine wfFrom_cons hl hn ?_
      simp only [Nodes.wfFrom, Bool.and_eq_true, decide_eq_true_eq]
      exact ⟨⟨⟨by omega, hw.1.1.2⟩, hw.1.2⟩, hw.2⟩
    · split
      · rename_i h; exact wfFrom_cons hl hn (by rw [h]; exact hw.2)
      · simp only [Nodes.wfFrom, Bool.and_eq_true, decide_eq_true_eq]
        exact ⟨hw.1, wfFrom_write hn t rest (m + 1) (by omega) hw.2⟩

/-- Read after write. -/
theorem read_write {n : Nat} (t : Triple) (k : Nat) :
    ∀ (ns : Nodes) (lo : Nat), Nodes.wfFrom lo ns = true →
      (ns.write n t).read k = if k = n then t else ns.read k
  | [], _, _ => read_cons (rest := []) rfl k
  | (m, u) :: rest, lo, hw => by
    simp only [Nodes.wfFrom, Bool.and_eq_true, decide_eq_true_eq] at hw
    simp only [Nodes.write]
    split
    · refine read_cons ?_ k
      simp only [Nodes.wfFrom, Bool.and_eq_true, decide_eq_true_eq]
      exact ⟨⟨⟨by omega, hw.1.1.2⟩, hw.1.2⟩, hw.2⟩
    · split
      · rename_i h1 h
        rw [read_cons (by rw [h]; exact hw.2) k]
        simp only [Nodes.read]
        by_cases hk : k = n
        · simp [hk]
        · simp [hk, show ¬ m = k by omega]
      · simp only [Nodes.read]
        rw [read_write t k rest (m + 1) hw.2]
        by_cases hm : m = k
        · simp [hm, show ¬ k = n by omega]
        · simp [hm]

theorem wf_write {n : Nat} (hn : n < Config.nodes) (t : Triple) (ns : Nodes) (h : ns.wf = true) :
    (ns.write n t).wf = true := wfFrom_write hn t ns 0 (by omega) h

/-- R37: a run of values keeps the form. -/
theorem wf_writeRun (ts : List Triple) (ns : Nodes) (first : Nat) (hl : first + ts.length ≤ Config.nodes)
    (h : ns.wf = true) : (ns.writeRun first ts).wf = true := by
  fun_induction Nodes.writeRun ns first ts
  case case1 => exact h
  case case2 ns first t ts ih =>
    have room : first + (ts.length + 1) ≤ Config.nodes := hl
    exact ih (by omega) (wf_write (by omega) t ns h)

/-- R37: what a node reads after a run of values. -/
theorem read_writeRun (ts : List Triple) (k : Nat) (ns : Nodes) (first : Nat)
    (hl : first + ts.length ≤ Config.nodes) (h : ns.wf = true) :
    (ns.writeRun first ts).read k = if first ≤ k then (ts[k - first]?).getD (ns.read k) else ns.read k := by
  fun_induction Nodes.writeRun ns first ts
  case case1 => simp
  case case2 ns first t ts ih =>
    have room : first + (ts.length + 1) ≤ Config.nodes := hl
    rw [ih (by omega) (wf_write (by omega) t ns h), read_write t k ns 0 h]
    rcases Nat.lt_trichotomy k first with below | rfl | above
    · rw [if_neg (by omega), if_neg (by omega), if_neg (by omega)]
    · simp
    · obtain ⟨d, rfl⟩ := Nat.exists_eq_add_of_lt above
      rw [if_pos (by omega), if_neg (by omega), if_pos (by omega),
        show first + d + 1 - (first + 1) = d by omega, show first + d + 1 - first = d + 1 by omega]
      rfl

end Sys2Proof.Machine
end

