-- ==== Sys2Proof/Laws/Ops.lean ====
section
/-! SUPPORT. What each shared operation of Machine/Ops.lean does, once: events, the drain, the strips, the line
machine, the bank holders, and the banks' form after every operation that writes a node. -/
namespace Sys2Proof.Machine

/-! ## Events (R167) -/

theorem event_free {s t : State} (h : s.procedure = none) : s.event t = t := by
  unfold State.event; rw [h]; rfl

theorem event_held {s t : State} (h : s.procedure ≠ none) : s.event t = s := by
  unfold State.event
  cases hp : s.procedure with
  | none => exact absurd hp h
  | some p => rfl

/-! ## The drain of a retired record (R21, R22) -/

theorem endDrains_record (s : State) (h : Handle) :
    s.endDrains.records[h] =
      match s.records[h].content with
      | .retiring _ b => if s.laneHolds b then s.records[h] else s.records[h].retired
      | .free => s.records[h]
      | .live _ => s.records[h] := by
  unfold State.endDrains
  exact Vector.getElem_ofFn _

theorem laneHolds_iff (s : State) (b : BankId) :
    s.laneHolds b = true ↔ ∃ l : LaneId, s.lanes[l].displayRef = some b ∨ s.lanes[l].paperRef = some b := by
  unfold State.laneHolds
  simp only [Vector.any_eq_true, Bool.or_eq_true, decide_eq_true_eq]
  constructor
  · rintro ⟨i, hi, hx⟩; exact ⟨⟨i, hi⟩, hx⟩
  · rintro ⟨l, hx⟩; exact ⟨l.val, l.isLt, hx⟩

/-- A drain leaves every record but the RETIRING ones as it is. -/
theorem endDrains_live {s : State} {h : Handle} {r : Record} (hl : s.Live h r) : s.endDrains.records[h] = s.records[h] := by
  rw [endDrains_record, hl]

/-! ## Strips (R105, R106) -/

theorem abandonOpen_idle {ch : Channel} (h : ch.strip = none) (x : AbandonCause) : ch.abandonOpen x = ch := by
  unfold Channel.abandonOpen; rw [h]; rfl

theorem abandonOpen_open {ch : Channel} (h : ch.strip ≠ none) (x : AbandonCause) :
    ch.abandonOpen x = { ch with strip := none, lastAbandon := some x, pending := ch.pending ||| 0x04 } := by
  unfold Channel.abandonOpen
  cases hs : ch.strip with
  | none => exact absurd hs h
  | some st => rfl

theorem abandonAttached_channel (s : State) (h : Handle) (c : ChannelId) :
    (s.abandonAttached h).channels[c] =
      if s.attached c = some h then s.channels[c].abandonOpen .changed else s.channels[c] := by
  unfold State.abandonAttached
  simp only [Fin.getElem_fin, Vector.getElem_ofFn]

/-! ## The line machine (R141) -/

theorem edge_same (p : PrinterSlot) (b : Bool) : p.edge b b = p := by
  unfold PrinterSlot.edge; split <;> simp

theorem edge_frozen {p : PrinterSlot} (h : p.override ≠ .auto) (was now : Bool) : p.edge was now = p := by
  unfold PrinterSlot.edge; split <;> simp_all

/-- An edge changes the line state and the pending set alone. -/
theorem edge_keeps (p : PrinterSlot) (was now : Bool) :
    (p.edge was now).paper = p.paper ∧ (p.edge was now).override = p.override ∧ (p.edge was now).t1 = p.t1 ∧
      (p.edge was now).t2 = p.t2 ∧ (p.edge was now).enabled = p.enabled := by
  unfold PrinterSlot.edge PrinterSlot.noteOutput
  split <;> (try split_ifs) <;> simp only [and_self]

theorem settleLines_slot (old new : State) (n : SlotId) :
    (old.settleLines new).slots[n] = new.slots[n].edge (old.lineCondition n) (new.lineCondition n) := by
  unfold State.settleLines
  simp only [Fin.getElem_fin, Vector.getElem_ofFn]

/-! ## Bank holders (R27, R33) -/

/-- `List.find?` over the numbers of an n-fold object finds the lowest that satisfies the test. -/
theorem find?_finRange {n : Nat} {p : Fin n → Bool} {k : Fin n} (hk : p k = true) (hlow : ∀ j, j < k → p j = false) :
    (List.finRange n).find? p = some k := by
  cases hf : (List.finRange n).find? p with
  | none => exact absurd hk (by simpa using List.find?_eq_none.mp hf k (List.mem_finRange k))
  | some x =>
    have hp : p x = true := List.find?_some hf
    rcases lt_trichotomy x k with h | h | h
    · rw [hlow x h] at hp; cases hp
    · rw [h]
    · exfalso
      rw [List.find?_eq_some_iff_getElem] at hf
      obtain ⟨-, i, hi, hx, hbefore⟩ := hf
      have hxi : x.val = i := by rw [← hx]; simp
      have := hbefore k.val (by rw [← hxi]; exact h)
      simp [hk] at this

theorem find?_finRange_none {n : Nat} {p : Fin n → Bool} :
    (List.finRange n).find? p = none ↔ ∀ k, p k = false := by
  rw [List.find?_eq_none]
  constructor
  · intro h k; simpa using h k (List.mem_finRange k)
  · intro h k _; simp [h k]

theorem lowestFreeBank_some {s : State} {b : BankId} (hb : s.bankFree b = true)
    (hlow : ∀ a, a < b → s.bankFree a = false) : s.lowestFreeBank = some b := find?_finRange hb hlow

theorem lowestIdleContext_some {s : State} {c : ContextId} (hc : s.contexts[c] = .idle)
    (hlow : ∀ d : ContextId, d < c → s.contexts[d] ≠ .idle) : s.lowestIdleContext = some c :=
  find?_finRange (by simpa using hc) fun d hd => by simpa using hlow d hd

theorem stagingOf_none {s : State} {h : Handle} (hn : ∀ c : ContextId, s.contexts[c].record? ≠ some h) :
    s.stagingOf h = none := by
  have : (List.finRange 4).find? (fun c => decide (s.contexts[c].record? = some h)) = none :=
    find?_finRange_none.mpr fun c => by simpa using hn c
  unfold State.stagingOf
  rw [this]
  rfl

theorem stagingOf_some {s : State} {h : Handle} {c : ContextId} (hc : s.StagedOnlyAt h c) :
    s.stagingOf h = some (c, s.contexts[c]) := by
  have : (List.finRange 4).find? (fun d => decide (s.contexts[d].record? = some h)) = some c :=
    find?_finRange (by simpa using hc.1) fun d hd => by
      have : ¬ s.contexts[d].record? = some h := fun e => absurd (hc.2 d e) (ne_of_lt hd)
      simpa using this
  unfold State.stagingOf
  rw [this]
  rfl

/-! ## The form of the banks -/

/-- BEGIN_GRID's bank: every node the zero triple (R29). -/
theorem banksCanonical_begin {s : State} (h : s.BanksCanonical) (b : BankId) : (s.setBank b []).BanksCanonical := by
  intro a
  simp only [setBank_banks, Fin.getElem_fin, Vector.getElem_set]
  split
  · rfl
  · exact h a

/-- GRID_CHUNK's bank (R37). -/
theorem banksCanonical_chunk {s : State} (h : s.BanksCanonical) (b : BankId) {first : Nat} {values : List Triple}
    (hf : first + values.length ≤ 729) : (s.setBank b (s.banks[b].writeRun first values)).BanksCanonical := by
  intro a
  simp only [setBank_banks, Fin.getElem_fin, Vector.getElem_set]
  split
  · exact wf_writeRun values _ _ hf (h b)
  · exact h a

theorem banksCanonical_reset : State.reset.BanksCanonical := by decide +kernel

end Sys2Proof.Machine
end

