-- ==== Sys2Proof/Tests/Slice0.lean ====
section
/-! SUPPORT. The writer's own tests: the well-formedness smoke, a few worked examples of the spec, and for every
obligation with hypotheses a small state and operands that meet them, clause by clause (test_witness_…). -/
-- One test at a time: tests that wait in parallel for the kernel hold a thread each, and the threads run out.
set_option Elab.async false

namespace Sys2Proof.Tests
open Sys2Proof Sys2Proof.Machine

/-! ## Well-formedness: what the check refuses -/

def longBody (n : Nat) : List Byte := List.replicate n 0

/-- One request of each family with a body one byte too long; the check asks the same of every kind. -/
theorem test_wf_refuses_a_body_of_201 :
    ([.createRecord 0, .gridChunk 0, .translate 0, .bindLane 0, .setHeadCorrection 0, .setPatches 0, .setSlotLine 0,
      .readNotices 0, .restart 0] : List (List Byte → Instr)).all (fun i => !(i (longBody 201)).wf) = true := by
  decide +kernel

/-- The byte that tells the request apart counts: 200 bytes beside it are one too many. -/
theorem test_wf_refuses_a_rest_of_200 :
    ([.readLane 0, .readSlot 0, .readChannel 0, .ackIndications 0, .setEnables 0] : List (List Byte → Instr)).all
      (fun i => !(i (longBody 200)).wf) = true := by decide +kernel

/-- A frame meets a driven SDO under no more bytes than it has. -/
theorem test_wf_refuses_more_driven_bytes_than_bytes :
    (Instr.requestFrameDiscard ⟨[0x6B], false, some 2⟩).wf = false ∧
      (Instr.requestFrameDiscard ⟨[0x6B], false, some 1⟩).wf = true := by decide

theorem test_wf_takes_the_longest_bodies :
    ((Instr.gridChunk 0 (longBody 200)).wf && (Instr.readLane 0 (longBody 199)).wf
      && (Instr.setEnables 0 (longBody 199)).wf && (Instr.readPool 0 []).wf) = true := by decide +kernel

/-! ## Small states -/

def paperR : Record :=
  { data := .paper ⟨Trim.zero, some 0, some ⟨9500, 0, -200⟩, 400, true, none, none⟩
    media := 1, variant := 0, owner := 1, change := 0x02, lookup := 0x04, bank := some 0
    patches := [⟨1023, 1023, 1023⟩, ⟨300, 520, 900⟩], settings := Settings.default, state := .matched
    passStreak := 0, failStreak := 0, windowStrips := 0, windowFailing := 0, hold := none
    passed := 0, failed := 0, voided := 0 }

def displayR : Record :=
  { paperR with data := .display, media := 2, bank := some 1, patches := [⟨5000, 0, 0⟩, ⟨9000, 0, 0⟩] }

/-- A paper record with no grid and no patches. -/
def bareR : Record := { paperR with media := 3, bank := none, patches := [], state := .unverified }

/-- Records 0 (paper, bank 0), 1 (display, bank 1) and 2 (paper, no grid); client 0 the admin, client 1 the owner with
change access, clients 2 and 3 strict, client 2 with lookup access; record 0 the active paper of slot 0. -/
def w : State :=
  { State.reset with
    records := ((State.reset.records.set 0 ⟨.live paperR, 0, 0⟩).set 1 ⟨.live displayR, 0, 0⟩).set 2 ⟨.live bareR, 0, 0⟩
    slots := State.reset.slots.set 0 { PrinterSlot.blank with paper := some 0, line := .on }
    clients := (State.reset.clients.set 2 ⟨true, false⟩).set 3 ⟨true, false⟩ }

/-- The same with no slot's paper. -/
def wIdle : State := { w with slots := State.reset.slots }

def wLoading (h : Handle) (coverage : Coverage) : State :=
  { wIdle with contexts := w.contexts.set 0 (.loading h 5 coverage 1) }

def wChecking (h : Handle) (strict : Bool) : State :=
  { wIdle with contexts := w.contexts.set 0 (.checking h 5 3 2 strict), response := .pending }

/-- A checking context while no response is PENDING: not reached by a run, met by the clauses on BUSY. -/
def wCheckingTaken : State := { wChecking 0 false with response := .empty }

def wFull : State := { w with records := Vector.replicate 48 ⟨.retiring ⟨.paper, 1, 0⟩ 0, 0, 0⟩ }

def wNoBank : State :=
  { w with records := Vector.ofFn fun h : Handle =>
      ⟨.live { paperR with media := h.val, bank := if b : h.val < 24 then some ⟨h.val, b⟩ else none }, 0, 0⟩ }

def wNoContext : State := { w with contexts := Vector.replicate 4 (.loading 2 5 0 1) }

def wBound (signal : Signal) : State :=
  { wIdle with lanes := w.lanes.set 0 { Lane.blank with
      signal := signal, binding := some ⟨1, some 0⟩, changes := [⟨some 1, some 0⟩], mode := .fallback } }

def wStrip (k : ChannelId) (st : Strip) (s : State) : State :=
  s.setChannel k { Channel.blank with strip := some st }

/-- The state after a command. -/
def after (i : Instr) (s : State) : State :=
  match exec i s with
  | .next t => t
  | .fault _ => s
  | .refused _ => s

/-- The response after a command. -/
def answer (i : Instr) (s : State) : ResponseSlot := (after i s).response

/-! ## Worked examples of the spec -/

/-- Section 3.9: the lookup and the trim. -/
def bank39 : Nodes :=
  [(205, ⟨5000, -1500, 2000⟩), (206, ⟨5400, -1500, 2400⟩), (214, ⟨5200, -1500, 2000⟩), (215, ⟨5600, -1500, 2400⟩),
   (286, ⟨5800, -1500, 1680⟩), (287, ⟨6200, -1500, 2080⟩), (295, ⟨6000, -1500, 1680⟩), (296, ⟨6400, -900, 2080⟩)]

theorem test_forward_lookup_of_3_9 :
    lookupGrid .paper bank39 ⟨300, 520, 900⟩ = ⟨5300, -1500, 1903⟩ ∧
      paperTransform bank39 ⟨164, -40, 25, -10⟩ ⟨300, 520, 900⟩ = (⟨5366, -1475, 1893⟩, 0) := by decide +kernel

/-- Section 3.10: PROOF at paper white. -/
theorem test_proof_of_3_10 :
    proofTransform
      [(637, ⟨9200, 0, -200⟩), (638, ⟨9200, 0, -200⟩), (646, ⟨9200, 0, -200⟩), (647, ⟨9200, 0, -200⟩),
       (718, ⟨9200, 0, -200⟩), (719, ⟨9200, 0, -200⟩), (727, ⟨9200, 0, -200⟩), (728, ⟨9600, 0, -300⟩)]
      ⟨400, 120, 0, -20⟩ [(687, ⟨1000, 1010, 1023⟩), (688, ⟨1012, 1012, 1008⟩)] ⟨1023, 1023, 1023⟩ =
      (⟨10000, 0, -318⟩, 1, ⟨1011, 1012, 1009⟩) := by decide +kernel

/-- Section 3.11: head correction and deviation. -/
theorem test_head_correction_of_3_11 :
    headCorrect ⟨-82, 15, 0, 0, 200, -6⟩ ⟨5210, -1480, 1880⟩ = ⟨5173, -1480, 1920⟩ ∧
      deviation ⟨5173, -1480, 1920⟩ ⟨5366, -1475, 1893⟩ = 225 := by decide

/-- Section 6.6, strips 4 and 10: the hold and SUSPECT; the excessive window and LOST. -/
theorem test_strips_of_6_6 :
    let r : Record := { paperR with
      settings := { Settings.default with excessive := 5 }, windowStrips := 1, windowFailing := 1 }
    let js : List Judged := [⟨0, 120, 0⟩, ⟨1, 350, 0⟩, ⟨2, 80, 0⟩, ⟨3, 412, 0⟩, ⟨4, 95, 0⟩, ⟨5, 200, 0⟩]
    failingPatches r js = 2 ∧ stripPasses r js = false ∧ (stageHold false js r).1.hold = some ⟨412, 3⟩ ∧
      (stageMatch false (stageWindow 2 r).1).state = .suspect ∧
      (stageWindow 1 { r with windowStrips := 7, windowFailing := 5 }).2 = 0x02 ∧
      (stageMatch true (stageWindow 1 { r with windowStrips := 7, windowFailing := 5 }).1).state = .lost ∧
      (stageMatch true (stageWindow 1 { r with windowStrips := 7, windowFailing := 5 }).1).passStreak = 1 := by
  decide

/-- Section 6.7, strips A and B: the candidate, the confirmed white and trim follow. -/
theorem test_whites_of_6_7 :
    let a : Reading := ⟨0, ⟨9480, 10, -190⟩, true⟩
    let b : Reading := ⟨0, ⟨9460, 30, -230⟩, true⟩
    let js : List Judged := [⟨0, 0, -10⟩, ⟨1, 0, 52⟩, ⟨2, 0, 38⟩, ⟨3, 0, 44⟩, ⟨4, 0, 30⟩]
    let rA := (stageWhite [a] paperR).1
    (stageWhite [a] paperR).2 = 0 ∧ (stageWhite [b] rA).2 = 0x10 ∧ meanError js = 31 ∧
      (stageTrim true js (paperR.onPaper fun f => { f with trim := ⟨0, 2, 0, 0⟩ })).trim.offL = 10 := by decide

/-- R69: the largest pixel in PASS; the word of a PROOF pixel is the device triple of section 3.10. -/
theorem test_pixels_pass_and_proof :
    w.videoOut 0 ⟨true, false, ⟨1023, 0, 1023⟩⟩ = some ⟨true, false, ⟨1023, 0, 1023⟩⟩ ∧
      Triple.word ⟨1011, 1012, 1009⟩ = ⟨1011, 1012, 1009⟩ ∧
      PixelWord.triple ⟨1023, 0, 512⟩ = ⟨1023, 0, 512⟩ := by decide +kernel

/-- Sections 5.10 and 10.4: a STRIP_CLOSE of channel 1 byte by byte. -/
theorem test_strip_close_bytes :
    let s1 := after (.receivedByte 0x03) (after (.receivedByte 0x01) (after (.receivedByte 0xD2) w))
    s1.receiver = .receiving [0xD2, 0x01, 0x03] 2 ∧
      (after (.receivedByte 0x2A) s1).channels[1].lastAbandon = some .stray ∧
      (after (.receivedByte 0x2A) s1).receiver = .hunting ∧
      (after (.receivedByte 0x2B) s1).global.instrumentError = some .check := by decide +kernel

/-- R187: client 0's READ_POOL, 6B 00 24 00 71, and the report of an EMPTY slot. -/
theorem test_frames_of_10_1 :
    answer (.requestFrameDiscard ⟨[0x6B, 0x00, 0x24, 0x00, 0x71], false, none⟩) w =
      .ready ⟨0x24, .done, 0, [], poolLayout w⟩ ∧
      (after (.fetch [0x94, 0, 0, 0]) w).sdo = [0xFF, 0xFF, 0x00, 0x00, 0xFF] := by decide +kernel

/-- Every bank and every context taken. -/
def wTaken : State := { wNoBank with contexts := wNoContext.contexts }

/-- Section 9.6, steps 1 to 3: state causes together, access before state, a strict client's range. -/
theorem test_refusals_of_9_6 :
    answer (.beginGrid 0 [9]) wTaken = .ready ⟨0x20, .refused, 4, [.poolEmpty, .noStaging], []⟩ ∧
      answer (.beginGrid 3 [9]) wTaken = .ready ⟨0x20, .refused, 3, [.notPermitted], []⟩ ∧
      (after (.beginGrid 3 [9]) wTaken).global.faultSet = 0x08 ∧
      answer (.setTrim 3 [9, 0x13, 0x88, 0, 0, 0, 0, 0, 0]) wTaken = .ready ⟨0x31, .refused, 1, [.badValue], []⟩ := by
  decide +kernel

/-- Section 7.6: arming at T1 = 100, on at the expiry, releasing at T2 = 300, back before the release ends. -/
theorem test_line_of_7_6 :
    let p : PrinterSlot := PrinterSlot.blank
    let on := { p with line := LineState.on }
    (p.edge false true).line = .arming 1000 ∧ ((p.edge false true).edge true false).line = .off ∧
      (p.edge false true).expire.line = .on ∧ (p.edge false true).expire.pending = 1 ∧
      (on.edge true false).line = .releasing 3000 ∧ (on.edge true false).pending = 0 ∧
      ((on.edge true false).edge false true).line = .on := by decide

/-- Section 8.8: a supply-low onset replaces a pin procedure and clears PIN; a core-clock failure joins it. -/
theorem test_resets_of_8_8 :
    let s1 := after (.conditionEnd .pin) (after .pinOnset { w with global := Global.blank })
    let s2 := after (.conditionEnd .supplyLow) (after .supplyLowOnset s1)
    let s3 := after (.conditionEnd .coreClockFail) (after .coreClockFailOnset s2)
    let s4 := after .holdTimerExpiry (after .pinOnset s3)
    s1.procedure = some ⟨.pin, none, .hold 2⟩ ∧ s1.global.resetReasons = 0x08 ∧
      s2.procedure = some ⟨.supplyLow, none, .hold 200⟩ ∧ s2.global.resetReasons = 0x02 ∧
      s3.procedure = some ⟨.supplyLow, none, .hold 200⟩ ∧ s3.global.resetReasons = 0x06 ∧
      s4.procedure = some ⟨.pin, none, .condition⟩ ∧ s4.global.resetReasons = 0x0E := by decide +kernel

/-- R188: the fixed lengths of the reading layouts. -/
theorem test_layout_lengths :
    (recordLayout w 0 paperR).length = 88 ∧ (poolLayout w).length = 125 ∧ (laneLayout w.lanes[0]).length = 13 ∧
      (slotLayout w 0).length = 14 ∧ (channelLayout w 0).length = 22 ∧ (noticeLayout w).length = 17 := by
  decide +kernel

/-! ## Witnesses: every obligation's hypotheses can be met -/

/-- Every kind of timer running, 2 ms left. -/
def wTimers : State :=
  { w with
    contexts := w.contexts.set 0 (.loading 2 5 0 2)
    lanes := w.lanes.set 1 { Lane.blank with signal := .active 2 }
    channels := w.channels.set 5 { Channel.blank with strip := some ⟨1, [], 2⟩ }
    slots := (w.slots.set 1 { PrinterSlot.blank with line := .arming 2 }).set 2
      { PrinterSlot.blank with line := .releasing 2 }
    receiver := .receiving [0xD2] 2 }

/-- IdleStepCountsTimersDown: nothing runs out. -/
theorem test_witness_idle_step :
    wTimers.pending = [] ∧ wTimers.procedure = none ∧
      (∀ c : ContextId, match wTimers.contexts[c] with
        | .loading _ _ _ t => 1 < t | .checking _ _ t _ _ => 1 < t | .idle => True) ∧
      (∀ l : LaneId, match wTimers.lanes[l].signal with | .active t => 1 < t | .noSignal => True) ∧
      (∀ c : ChannelId, match wTimers.channels[c].strip with | some st => 1 < st.timer | none => True) ∧
      (∀ n : SlotId, match wTimers.slots[n].line with
        | .arming t => 1 < t | .releasing t => 1 < t | _ => True) ∧
      (match wTimers.receiver with | .receiving _ t => 1 < t | .hunting => True) := by
  refine ⟨rfl, rfl, fun c => ?_, fun l => ?_, fun c => ?_, fun n => ?_, Nat.one_lt_two⟩ <;>
    first | fin_cases c | fin_cases l | fin_cases n
  all_goals first | exact trivial | exact Nat.one_lt_two

/-- The state after one step. -/
def stepped (s : State) : State :=
  match step s with
  | .next t => t
  | .fault _ => s
  | .refused _ => s

/-- IdleStepCountsTimersDown: two idle steps on, every timer of `wTimers` has run out. -/
theorem test_witness_timers_run_out :
    let t := stepped (stepped wTimers)
    t.contexts[0] = .idle ∧ t.lanes[1].signal = .noSignal ∧ t.channels[5].lastAbandon = some .noSignal ∧
      t.slots[1].line = .on ∧ t.slots[2].line = .off ∧ t.global.instrumentError = some .gap := by decide +kernel

/-- IdleStepCountsTimersDown: a procedure in CONDITION, in HOLD with 2 ms left, and at its last millisecond. -/
theorem test_witness_idle_step_of_a_procedure :
    let held (phase : Phase) : State := { State.blank with procedure := some ⟨.pin, none, phase⟩ }
    (held .condition).pending = [] ∧ stepped (held .condition) = held .condition ∧
      (stepped (held (.hold 2))).procedure = some ⟨.pin, none, .hold 1⟩ ∧
      (stepped (held (.hold 1))).procedure = none := by decide +kernel

/-- ProcedureTakesNoOtherEvent. -/
theorem test_witness_procedure :
    (after .pinOnset w).procedure ≠ none ∧ isSupervisor (.fetch []) = false ∧ isFrame (.fetch []) = true ∧
      isSupervisor .checkCompletes = false ∧ isFrame .checkCompletes = false ∧
      (after (.requestFrameDiscard ⟨[0x6B, 0], false, some 1⟩) (after .pinOnset w)).sdo = [0xFF] := by decide +kernel

/-- BusyOrUnknownClientStopsARequest. -/
theorem test_witness_busy_or_unknown :
    requestOf (.readPool 8 []) = some (0x24, 8, []) ∧ (Instr.readPool 8 []).wf = true ∧ w.procedure = none ∧
      (wChecking 0 false).response = .pending ∧ w.response ≠ .pending ∧ 7 < (8 : Byte).toNat := by decide +kernel

/-- RefusedRequestChangesNothingElse. -/
theorem test_witness_refused_request :
    requestOf (.setAccess 2 [0, 0, 0]) = some (0x13, clientByte 2, [0, 0, 0]) ∧
      (Instr.setAccess 2 [0, 0, 0]).wf = true ∧ w.Takes ∧
      exec (.setAccess 2 [0, 0, 0]) w = .next (after (.setAccess 2 [0, 0, 0]) w) ∧
      (after (.setAccess 2 [0, 0, 0]) w).response = .ready ⟨0x13, .refused, 3, [.notPermitted], []⟩ :=
  ⟨rfl, by decide, by decide +kernel, rfl, by decide +kernel⟩

/-- SharedRefusalsOfFormTargetAndAccess. -/
theorem test_witness_shared_refusals :
    requestOf (.readPool 0 [0]) = some (0x24, clientByte 0, [0]) ∧ (Instr.readPool 0 [0]).wf = true ∧ w.Takes ∧
      ([0] : List Byte).length ≠ 0 ∧ (4 : Byte) ∉ ([1, 2, 3] : List Byte) ∧ 2 < (3 : Byte).toNat ∧
      1 < (2 : Byte).toNat ∧ requestOf (.reverify 2 [47]) = some (0x63, clientByte 2, [47]) ∧ w.NoRecord 47 ∧
      w.NoRecord 48 ∧ requestOf (.reverify 2 [0]) = some (0x63, clientByte 2, [byteOf (0 : Handle).val]) ∧
      w.Live 0 paperR ∧ ¬ MayChange w 2 paperR ∧ ¬ MayLookup w 3 paperR := by decide +kernel

/-- FaultyFrameIsDiscarded, each clause at a boundary: no byte, a type, a length of 201, two bytes after the type, one
byte short, one byte long, edges that follow, a wrong check byte. -/
theorem test_witness_faulty_frames :
    (after (.requestFrameDiscard ⟨[], true, none⟩) w).global.linkError = none ∧
      [(([0x00] : List Byte), false), ([0x6B, 0, 0x24, 201], false), ([0x6B, 0, 0x24], true),
        ([0x6B, 0, 0x24, 0], false), ([0x6B, 0, 0x24, 0, 0x71, 0], false), ([0x6B, 0, 0x24, 0, 0x71], true),
        ([0x6B, 0, 0x24, 0, 0x72], false)].map
          (fun f => (after (.requestFrameDiscard ⟨f.1, f.2, none⟩) w).global.linkError) =
        [some .type, some .long, some .short, some .short, some .long, some .long, some .check] := by decide +kernel

/-- FaultyFrameIsDiscarded: a frame of type 0x6C, and a sound frame that overlaps a procedure by its first two bytes. -/
theorem test_witness_other_frames :
    (after (.requestFrameDiscard ⟨[0x6C, 0x94, 0, 0], false, none⟩) w).sdo = [0xFF, 0xFF, 0x00, 0x00] ∧
      (after (.requestFrameDiscard ⟨[0x6B, 0, 0x24, 0, 0x71], false, some 3⟩) w).sdo = [0xFF, 0xFF, 0xFF] ∧
      answer (.requestFrameDiscard ⟨[0x6B, 0, 0x24, 0, 0x71], false, some 3⟩) w = .empty := by decide +kernel

/-- SoundFrameIsTaken: a known and an unknown kind, from client 0 and from client 8. -/
theorem test_witness_sound_frame :
    ([] : List Byte).length ≤ 200 ∧ w.Takes ∧ ([0x6B, clientByte 0, 0x24, byteOf 0, 0x71] : List Byte).sum = 0 ∧
      requestOf (.readPool 0 []) = some (0x24, clientByte 0, []) ∧
      ([0x6B, clientByte 0, 0x93, byteOf 0, 0x02] : List Byte).sum = 0 ∧
      answer (.requestFrameDiscard ⟨[0x6B, 0, 0x93, 0, 0x02], false, none⟩) w =
        .ready ⟨0x93, .refused, 1, [.unknownKind], []⟩ ∧
      ([0x6B, 8, 0x93, byteOf 0, 0xFA] : List Byte).sum = 0 ∧
      answer (.requestFrameDiscard ⟨[0x6B, 8, 0x93, 0, 0xFA], false, none⟩) w =
        .ready ⟨0x93, .refused, 1, [.unknownKind, .badValue], []⟩ ∧
      answer (.requestFrameDiscard ⟨[0x6B, 8, 0x24, 0, 0x69], false, none⟩) w =
        .ready ⟨0x24, .refused, 1, [.badValue], []⟩ := by decide +kernel

/-- SoundFrameIsTaken: kinds 0x43 and 0x81 with an undefined class or operation, of their length and of another; a
PENDING slot; a procedure. -/
theorem test_witness_undefined_class_and_operation :
    answer (.requestFrameDiscard ⟨[0x6B, 0, 0x43, 2, 3, 0, 0x4D], false, none⟩) w =
        .ready ⟨0x43, .refused, 1, [.badValue], []⟩ ∧
      answer (.requestFrameDiscard ⟨[0x6B, 0, 0x43, 1, 3, 0x4E], false, none⟩) w =
        .ready ⟨0x43, .refused, 1, [.badLength], []⟩ ∧
      answer (.requestFrameDiscard ⟨[0x6B, 0, 0x81, 4, 0, 0, 0, 0, 0x10], false, none⟩) w =
        .ready ⟨0x81, .refused, 1, [.badValue], []⟩ ∧
      answer (.requestFrameDiscard ⟨[0x6B, 0, 0x81, 0, 0x14], false, none⟩) w =
        .ready ⟨0x81, .refused, 1, [.badLength], []⟩ ∧
      (after (.requestFrameDiscard ⟨[0x6B, 0, 0x24, 0, 0x71], false, none⟩) (wChecking 0 false)).global.linkError =
        some .busy ∧
      (after (.requestFrameDiscard ⟨[0x6B, 0, 0x24, 0, 0x71], false, none⟩) (after .pinOnset w)).sdo = [] := by
  decide +kernel

/-- FetchReportsTheResponseSlot. -/
theorem test_witness_fetch :
    w.procedure = none ∧ w.response = .empty ∧ (wChecking 0 false).response = .pending ∧
      (after (.readPool 0 []) w).response ≠ .empty ∧ (0x95 : Byte) ≠ 0x94 := by decide +kernel

/-- CreateRecordTakesLowestFreeSlot. -/
theorem test_witness_create_record :
    w.Takes ∧ u16 0 4 ≠ 0 ∧ w.records[3].content = .free ∧ (∀ g : Handle, g < 3 → w.records[g].content ≠ .free) ∧
      ∀ g : Handle, w.records[g].key? ≠ some ⟨.paper, u16 0 4, (0 : Byte).toNat⟩ := by decide +kernel

/-- CreateRecordRefusals, the form clauses at their boundaries: four bytes, masks 3 and 4, a set too few. -/
theorem test_witness_create_refusals :
    (3 : Byte) ≠ 1 ∧ (3 : Byte) ≠ 2 ∧ u16 0 0 = 0 ∧ wFull.Takes ∧ (∀ g : Handle, wFull.records[g].content ≠ .free) ∧
      wFull.records[0].key? = some ⟨.paper, 1, 0⟩ ∧ w.records[0].key? = some ⟨.paper, 1, 0⟩ ∧
      w.records[3].content = .free ∧ (∀ g : Handle, wFull.records[g].key? ≠ some ⟨.display, 1, 0⟩) ∧
      answer (.createRecord 0 [1, 0, 9, 0]) w = .ready ⟨0x10, .refused, 1, [.badLength], []⟩ ∧
      answer (.createRecord 0 [1, 0, 9, 0, 4]) w = .ready ⟨0x10, .refused, 1, [.badValue], []⟩ ∧
      answer (.createRecord 0 [1, 0, 9, 0, 3, 0]) w = .ready ⟨0x10, .refused, 1, [.badLength], []⟩ := by
  decide +kernel

/-- FindRecordAnswersByKey. -/
theorem test_witness_find_record :
    w.Takes ∧ w.Live 0 paperR ∧ paperR.key = ⟨.paper, 1, 0⟩ ∧ ¬ MayLookup w 3 paperR ∧ MayLookup w 2 paperR ∧
      (∀ g : Handle, (w.record? g).map (·.key) = some ⟨.paper, 1, 0⟩ → g = 0) ∧
      (∀ g : Handle, (w.record? g).map (·.key) ≠ some ⟨.display, 9, 0⟩) := by decide +kernel

/-- ReadingRequestsAnswerTheirLayouts. -/
theorem test_witness_reading_requests :
    w.Takes ∧ w.Live 0 paperR ∧ MayLookup w 2 paperR ∧ 728 < u16 0x02 0xD9 ∧ u16 0x02 0xD8 ≤ 728 ∧ w.Live 2 bareR ∧
      MayLookup w 2 bareR ∧ bareR.bank = none ∧ paperR.bank = some 0 := by decide +kernel

/-- ReadingRequestsAnswerTheirLayouts: the fields of a held bank, a LOADING and a CHECKING context, a bound lane, the
line of a slot in RELEASING with 11 ms left (2 units) and in ON, and an IDLE channel. -/
theorem test_layout_fields :
    bankLayout (wLoading 0 7) 0 = [0, 1, 0xFF, 0] ∧ bankLayout (wLoading 0 7) 5 = [0xFF, 0, 0, 0] ∧
      contextLayout (wLoading 0 7).contexts[0] = [1, 0, 5, 0, 3, 0, 1] ∧
      contextLayout (wChecking 0 false).contexts[0] = [2, 0, 5, 0x02, 0xD9, 0, 0] ∧
      laneLayout (wBound (.active 1)).lanes[0] = [1, 1, 0, 0, 0xFF, 0xFF, 0, 2, 0xFF, 0xFF, 0xFF, 0, 0] ∧
      slotLayout { w with slots := w.slots.set 0 { PrinterSlot.blank with paper := some 0, line := .releasing 11 } } 0 =
        [0, 1, 0, 0, 100, 0x01, 0x2C, 3, 0, 0, 2, 1, 0, 0] ∧
      slotLayout w 0 = [0, 1, 0, 0, 100, 0x01, 0x2C, 2, 0, 0, 0, 1, 0, 0] ∧
      (channelLayout w 0).drop 14 = [0, 0, 0, 0, 0, 0xFF, 0, 0] := by decide +kernel

/-- SetAccessReplacesBothSets, RetireRecordFreesOrDrains. -/
theorem test_witness_access_and_retirement :
    w.Takes ∧ w.Live 0 paperR ∧ MayOwn w 1 paperR ∧ ¬ MayOwn w 2 paperR ∧ MayChange w 1 paperR ∧
      w.inUse 0 = true ∧ (∀ k : ContextId, w.contexts[k].record? ≠ some 0) ∧ wIdle.inUse 0 = false ∧
      wIdle.Live 0 paperR ∧ wIdle.laneHolds 0 = false ∧ (wLoading 0 0).inUse 0 = false ∧
      (wLoading 0 0).StagedOnlyAt 0 0 ∧ (wLoading 0 0).contexts[0].isChecking = false ∧
      (wBound .noSignal).inUse 1 = true ∧ wCheckingTaken.Takes ∧ wCheckingTaken.StagedOnlyAt 0 0 ∧
      answer (.retireRecord 0 [0]) wCheckingTaken = .ready ⟨0x14, .refused, 4, [.busy], []⟩ ∧
      ({ wIdle with lanes := w.lanes.set 0 { Lane.blank with paperRef := some 0 } } : State).laneHolds 0 = true := by
  decide +kernel

/-- BeginGridTakesBankAndContext. -/
theorem test_witness_begin_grid :
    w.Takes ∧ w.Live 0 paperR ∧ MayChange w 1 paperR ∧ (∀ k : ContextId, w.contexts[k].record? ≠ some 0) ∧
      w.bankFree 2 = true ∧ (∀ a : BankId, a < 2 → w.bankFree a = false) ∧ w.contexts[0] = .idle ∧
      (wLoading 0 0).contexts[0].record? = some 0 ∧ (∀ b : BankId, wNoBank.bankFree b = false) ∧
      (∀ k : ContextId, wNoContext.contexts[k] ≠ .idle) := by decide +kernel

/-- GridChunkWritesOrIsRefused. -/
theorem test_witness_grid_chunk :
    (wLoading 0 0).Takes ∧ (wLoading 0 0).Live 0 paperR ∧ MayChange (wLoading 0 0) 1 paperR ∧
      ¬ MayChange (wLoading 0 0) 2 paperR ∧ u16 0x02 0xD8 + 1 ≤ 729 ∧ ¬ u16 0x02 0xD9 + 1 ≤ 729 ∧
      (triplesOf labOf (longBody (6 * 27))).all labInRange = true ∧ 4 + 6 * 27 ≤ 196 + 4 ∧
      (wLoading 0 0).StagedOnlyAt 0 0 ∧ (wLoading 0 0).contexts[0] = .loading 0 5 0 1 ∧
      (wLoading 0 0).banks[5].wf = true ∧ (∀ k : ContextId, w.contexts[k].record? ≠ some 0) ∧
      wCheckingTaken.Takes ∧ wCheckingTaken.StagedOnlyAt 0 0 ∧ wCheckingTaken.contexts[0].isChecking = true := by
  decide +kernel

/-- CommitAbandonAndExpiryEndALoad. -/
theorem test_witness_commit_and_abandon :
    (wLoading 0 (BitVec.allOnes 729)).Takes ∧ (wLoading 0 (BitVec.allOnes 729)).StagedOnlyAt 0 0 ∧
      (wLoading 0 (BitVec.allOnes 729)).contexts[0] = .loading 0 5 (BitVec.allOnes 729) 1 ∧
      (BitVec.allOnes 729 >>> 1 : Coverage).getLsbD 728 = false ∧ MayChange w 1 paperR := by decide +kernel

/-- A check whose bank's node 91 lies below its node 0. -/
def wFalling : State := { wChecking 0 true with banks := w.banks.set 5 [(0, ⟨1, 0, 0⟩)] }

/-- CheckCompletesEitherWay: the check of a bank of zero nodes passes; one whose node 91 lies below its node 0 fails at step 1. -/
theorem test_witness_check_completes :
    (wChecking 0 true).procedure = none ∧ (wChecking 0 true).contexts[0] = .checking 0 5 3 2 true ∧
      (∀ j : ContextId, (wChecking 0 true).contexts[j].isChecking = true → j = 0) ∧
      (wChecking 0 true).Live 0 paperR ∧
      answer .checkCompletes (wChecking 0 true) = .ready ⟨0x22, .done, 0, [], [5]⟩ ∧
      answer .checkCompletes wFalling = .ready ⟨0x22, .refused, 4, [.gridCheck], [1, 0]⟩ ∧
      (after .checkCompletes wFalling).global.faultSet = 0x04 := by decide +kernel

/-- CommitAbandonAndExpiryEndALoad (the expiry), ReferenceChangeTakesCurrentBanks. -/
theorem test_witness_staging_and_reference :
    (wLoading 0 0).procedure = none ∧ (wLoading 0 0).contexts[0] = .loading 0 5 0 1 ∧
      (wLoading 0 0).contexts[1] = .idle ∧ (wChecking 0 false).contexts[0].isChecking = true ∧
      (wBound (.active 100)).lanes[0].changes = ⟨some 1, some 0⟩ :: [] := by decide +kernel

/-- ArithmeticRoundsAndClamps. -/
theorem test_witness_arithmetic :
    (0 : Int) < 2 ∧ roundDiv 5 2 = 3 ∧ roundDiv (-5) 2 = -3 ∧ clampTo (-500) 500 501 = 500 ∧
      labInRange ⟨0, -12800, -12800⟩ = true ∧ labInRange ⟨10000, 12799, 12799⟩ = true ∧
      deviation ⟨0, -12800, -12800⟩ ⟨10000, 12799, 12799⟩ = 61198 := by decide

/-- LookupIsAWeightedMean: the edges of R56 and an input on a node. -/
theorem test_witness_lookup :
    deviceInRange ⟨1023, 0, 1023⟩ = true ∧ labInRange ⟨10000, -12800, 12799⟩ = true ∧
      axesOf .paper ⟨1023, 128, 127⟩ = (⟨7, 127, 128⟩, ⟨1, 0, 128⟩, ⟨0, 127, 128⟩) ∧
      axesOf .display ⟨10000, -12800, 12799⟩ = (⟨7, 1250, 1250⟩, ⟨0, 0, 3200⟩, ⟨7, 3199, 3200⟩) ∧
      deviceInRange ⟨0, 128, 896⟩ = true ∧ axesOf .paper ⟨0, 128, 896⟩ = (⟨0, 0, 128⟩, ⟨1, 0, 128⟩, ⟨7, 0, 128⟩) := by
  decide

/-- TranslateAnswersTheTransform. -/
theorem test_witness_translate :
    (w.Takes ∧ w.Live 0 paperR ∧ w.Live 1 displayR ∧ w.Live 2 bareR ∧ MayLookup w 2 paperR ∧ MayLookup w 2 displayR ∧
      MayLookup w 2 bareR ∧ displayR.data = .display ∧ deviceInRange (deviceOf 0x04 0x00 0 0 0 0) = false ∧
      deviceInRange (deviceOf 0x03 0xFF 0 0 0 0) = true ∧ labInRange (labOf 0x27 0x10 0xCE 0x00 0x31 0xFF) = true ∧
      labInRange (labOf 0x27 0x11 0 0 0 0) = false ∧ w.clients[2].strict = true ∧ w.clients[0].strict = false ∧
      bareR.bank = none ∧ paperR.bank = some 0 ∧ displayR.bank = some 1 ∧ labInRange ⟨0, 0, 0⟩ = true) ∧
      ∀ n, deviceInRange (Nodes.read [] n) = true :=
  ⟨by decide +kernel, fun _ => rfl⟩

/-- SetTrimStoresTheTrim. -/
theorem test_witness_set_trim :
    w.Takes ∧ inRange (-4096) 4095 (s16 0x10 0x00) = false ∧ inRange (-4096) 4095 (s16 0x0F 0xFF) = true ∧
      w.clients[2].strict = true ∧ w.clients[0].strict = false ∧ w.Live 1 displayR ∧ w.Live 0 paperR ∧
      MayChange w 1 paperR := by decide +kernel

/-- LaneRequestsBindUnbindAndSetPolicy. -/
theorem test_witness_lane_requests :
    (wBound .noSignal).Takes ∧ IsAdmin (wBound .noSignal) 0 ∧ ¬ IsAdmin (wBound .noSignal) 1 ∧ wIdle.Live 1 displayR ∧
      displayR.bank.isSome ∧ wIdle.Live 0 paperR ∧ paperR.kind = .paper ∧ paperR.bank.isSome ∧
      (wBound .noSignal).lanes[0].namesDisplay 1 = true ∧ (wBound .noSignal).lanes[1].namesDisplay 1 = false ∧
      (wBound (.active 1)).lanes[0].signal ≠ .noSignal ∧ (wBound .noSignal).lanes[1].signal = .noSignal ∧
      1 < (2 : Byte).toNat ∧ (1 : Byte) = byteOf (1 : LaneId).val := by decide +kernel

/-- FrameStartRunsItsStages, SignalLossStopsTheLane. -/
theorem test_witness_lane_events :
    (wBound (.active 1)).procedure = none ∧ (wBound (.active 1)).lanes[0].signal ≠ .noSignal ∧
      (wBound .noSignal).lanes[0].signal = .noSignal ∧ w.outOfMatch 0 = false ∧ w.outOfMatch 2 = true := by
  decide +kernel

/-- A lane that shows frames in the given mode through banks 1 and 0, its reference change taken. -/
def wShows (mode : Mode) (changes : List RefChange) : State :=
  { w with lanes := w.lanes.set 0 { Lane.blank with
      mode := mode, displayRef := some 1, paperRef := some 0, frameTrim := some Trim.zero
      framePatch := some ⟨5000, 0, 0⟩, changes := changes } }

/-- FrameStartRunsItsStages: a pixel in each mode, a word outside the data enable, a change not yet taken. -/
theorem test_witness_video :
    let v (de : Bool) : VideoSignals := ⟨de, true, ⟨1023, 0, 1⟩⟩
    (wShows .fallback []).videoOut 0 (v true) = some (v true) ∧ (wShows .proof []).videoOut 0 (v false) = some (v false) ∧
      (wShows .proof []).videoOut 0 (v true) = some ⟨true, true, ⟨0, 0, 0⟩⟩ ∧
      (wShows .measuring []).videoOut 0 (v true) = some ⟨true, true, ⟨0, 0, 0⟩⟩ ∧
      (wShows .measuring [⟨none, none⟩]).videoOut 0 (v true) = none := by decide +kernel

/-- SetHeadCorrectionReplacesTheSix. -/
theorem test_witness_head_correction :
    clampTo (-1000) 1000 (s16 0x03 0xE9) ≠ s16 0x03 0xE9 ∧ clampTo (-1000) 1000 (s16 0xFC 0x18) = s16 0xFC 0x18 ∧
      w.Takes ∧ w.clients[2].strict = true ∧ w.clients[0].strict = false ∧ IsAdmin w 0 ∧ ¬ IsAdmin w 1 := by
  decide +kernel

/-- StripOpenOpensOrRefuses, ReadingAppendsInSequence, StripCloseHandsOver. -/
theorem test_witness_strip_close :
    let short : State := wStrip 0 ⟨2, [], 5⟩ w
    let whole (good : Bool) : State := wStrip 0 ⟨2, [⟨0, Triple.zero, good⟩, ⟨1, Triple.zero, true⟩], 5⟩ w
    w.procedure = none ∧ w.channels[0].strip = none ∧ short.channels[0].strip = some ⟨2, [], 5⟩ ∧
      (whole true).attached 0 = some 0 ∧ (whole true).Live 0 paperR ∧
      (after (.stripClose 0) (whole false)).channels[0].pending = 0x02 ∧
      (after (.stripClose 0) (whole true)).channels[0].pending = 0x01 := by decide +kernel

/-- InstrumentDiscardsAndStalls, ReceivedByteGathersMessages. -/
theorem test_witness_receiver :
    let at_ (m : List Byte) : State := { w with receiver := .receiving m 1 }
    w.procedure = none ∧ w.receiver = .hunting ∧ (at_ [0xD2]).receiver = .receiving [0xD2] 1 ∧
      ([0xD2, byteOf (1 : ChannelId).val, 3, 0x2A] : List Byte).sum = 0 ∧
      ([0xD2, byteOf (1 : ChannelId).val, 1, 4, 0x28] : List Byte).sum = 0 ∧
      (after (.receivedByte 6) (at_ [0xD2])).global.instrumentError = some .channel ∧
      (after (.receivedByte 4) (at_ [0xD2, 5])).global.instrumentError = some .kind ∧
      (after .gapTimerExpiry (at_ [0xD2, 5])).global.instrumentError = some .gap := by decide +kernel

/-- SetPatchesReplacesThePatchSet. -/
theorem test_witness_set_patches :
    w.Takes ∧ w.Live 0 paperR ∧ w.Live 1 displayR ∧ MayChange w 1 paperR ∧ (longBody (6 * 32)).length ≤ 192 ∧
      (triplesOf deviceOf (longBody 6)).all deviceInRange = true ∧ (0 : Byte).toNat < (1 : Byte).toNat ∧
      ¬ (1 : Byte).toNat < (1 : Byte).toNat ∧ deviceInRange (deviceOf 4 0 0 0 0 0) = false ∧
      answer (.setPatches 1 [0]) w = .ready ⟨0x60, .refused, 1, [.badLength], []⟩ ∧
      answer (.setPatches 1 [0, 33]) w = .ready ⟨0x60, .refused, 1, [.badValue], []⟩ ∧
      answer (.setPatches 1 (0 :: 32 :: longBody 191)) w = .ready ⟨0x60, .refused, 1, [.badLength], []⟩ := by
  decide +kernel

/-- SetNominalWhiteClearsTheWhites, SetMatchSettingsReplacesAll. -/
theorem test_witness_whites_and_settings :
    labInRange (labOf 0x27 0x11 0 0 0 0) = false ∧ labInRange (labOf 0x27 0x10 0 0 0 0) = true ∧ w.Takes ∧
      w.Live 0 paperR ∧ w.Live 1 displayR ∧ MayChange w 1 displayR ∧ w.clients[2].strict = true ∧
      MayChange { w with clients := w.clients.set 1 ⟨true, false⟩ } 1 paperR ∧ max 1 (min 4 5) ≠ 5 ∧
      max 1 (min 4 4) = 4 ∧ u16 0 0 = 0 := by decide +kernel

/-- ReverifyClearHoldReadCounters. -/
theorem test_witness_reverify_and_counters :
    w.Takes ∧ w.Live 0 paperR ∧ MayChange w 1 paperR ∧ ¬ MayChange w 2 paperR ∧ MayLookup w 2 paperR ∧
      ¬ MayLookup w 3 paperR ∧ ({ paperR with settings := { Settings.default with clearOnRead := true } }).settings.clearOnRead = true ∧
      paperR.settings.clearOnRead = false := by decide +kernel

/-- EvaluationCountsAndHolds. -/
theorem test_witness_evaluation :
    let far : Reading := ⟨0, ⟨5000, 0, 0⟩, true⟩
    let strict : Record := { paperR with settings := { Settings.default with tolerance := 0 } }
    let js := judgePatches strict [] [far]
    strict.settings.tolerance < js.countP (fun j => strict.settings.patchLimit < j.deviation) ∧
      (¬ paperR.settings.tolerance < (judgePatches paperR [] []).countP fun j => 300 < j.deviation) ∧
      strict.hold = none ∧ (evaluation [] [far] strict).1.hold = some ⟨5000, 0⟩ ∧
      (evaluation [] [far, far] strict).1.hold = some ⟨5000, 0⟩ ∧
      judgePatches strict [] [{ far with good := false }, far] = [⟨1, 5000, 5000⟩] := by decide +kernel

/-- EvaluationStagesFollowTheirTables. -/
theorem test_witness_evaluation_stages :
    paperR.state.inMatch = true ∧ bareR.state.inMatch = false ∧ 8 ≤ 7 + 1 ∧ 6 + 1 < 8 ∧
      (|(9460 - 9480 : Int)| ≤ 50) ∧ deviation ⟨9100, 60, -450⟩ ⟨9500, 0, -200⟩ = 710 ∧
      ([⟨0, Triple.zero, true⟩] : List Reading)[0]? = some ⟨0, Triple.zero, true⟩ := by decide

/-- LineMachineFollowsTheTable. -/
theorem test_witness_line_timer :
    let armed : State := { w with slots := w.slots.set 1 { PrinterSlot.blank with line := .arming 1 } }
    let releasing : State := { w with slots := w.slots.set 1 { PrinterSlot.blank with line := .releasing 1 } }
    armed.procedure = none ∧ armed.slots[1].override = .auto ∧ armed.slots[1].line = .arming 1 ∧
      releasing.slots[1].line = .releasing 1 ∧ w.slots[1].line = .off ∧ w.slots[0].line = .on := by decide +kernel

/-- SetSlotPaperMovesThePaper, SetSlotLineOverridesTheLine. -/
theorem test_witness_slot_requests :
    w.Takes ∧ IsAdmin w 0 ∧ w.Live 1 displayR ∧ w.Live 0 paperR ∧ w.slots[0].paper = some 0 ∧
      (∀ k : SlotId, k ≠ 0 → w.slots[k].paper ≠ some 0) ∧ u16 0x17 0x71 = 6001 ∧ u16 0x17 0x70 ≤ 6000 ∧
      w.clients[0].strict = false ∧
      IsAdmin { w with clients := w.clients.set 0 ⟨true, true⟩ } 0 := by decide +kernel

/-- AcknowledgeEnableAndAttn. -/
theorem test_witness_acknowledge :
    w.Takes ∧ (0x1F : Byte) &&& ~~~Source.global.members = 0 ∧ (0x01 : Byte) &&& ~~~(Source.slot 3).members = 0 ∧
      IsAdmin w 0 ∧ w.Live 0 paperR ∧ MayChange w 1 paperR ∧ w.record? 47 = none ∧ w.attn = false ∧
      4 < (5 : Byte).toNat ∧ (0x02 : Byte) &&& ~~~(0x01 : Byte) ≠ 0 ∧ ¬ IsAdmin w 1 ∧ ¬ MayChange w 2 paperR ∧
      answer (.setEnables 1 [1, 3, 0]) w = .ready ⟨0x81, .refused, 3, [.notAdmin], []⟩ ∧
      answer (.ackIndications 1 [0, 1, 0]) w = .ready ⟨0x81, .refused, 2, [.noSuchUnit], []⟩ ∧
      answer (.ackIndications 1 [4, 48, 0]) w = .ready ⟨0x81, .refused, 2, [.noSuchRecord], []⟩ ∧
      ({ w with global := { w.global with enabled := 0x01 } } : State).attn = true := by decide +kernel

/-- SetClientReplacesBothFlags, ClearTablesEmptiesTheTables, RestartStartsAProcedure. -/
theorem test_witness_clients_and_tables :
    w.Takes ∧ IsAdmin w 0 ∧ ¬ IsAdmin w 1 ∧ 7 < (8 : Byte).toNat ∧ (7 : Byte) = clientByte 7 := by decide +kernel

/-- OnsetsActByPriority, ConditionEndStartsTheHold, HoldExpiryContinuesOrEnds. -/
theorem test_witness_supervisor :
    let held (src : ResetSource) (phase : Phase) (k : Conditions) : State :=
      { State.blank with procedure := some ⟨src, none, phase⟩, conditions := k }
    w.procedure = none ∧ ResetSource.powerOn.priority < ResetSource.pin.priority ∧
      ResetSource.supplyLow.priority = ResetSource.coreClockFail.priority ∧
      (after (.conditionEnd .supplyLow) (held .supplyLow .condition ⟨false, true, false, false⟩)).procedure =
        some ⟨.supplyLow, none, .hold 200⟩ ∧
      (after (.conditionEnd .supplyLow) (held .supplyLow .condition ⟨false, true, true, false⟩)).procedure =
        some ⟨.supplyLow, none, .condition⟩ ∧
      (after .holdTimerExpiry (held .powerOn (.hold 1) ⟨false, true, true, true⟩)).procedure =
        some ⟨.supplyLow, some .coreClockFail, .condition⟩ ∧
      (after .holdTimerExpiry (held .powerOn (.hold 1) ⟨false, true, false, true⟩)).procedure =
        some ⟨.supplyLow, none, .condition⟩ ∧
      (after .holdTimerExpiry (held .powerOn (.hold 1) ⟨false, false, true, true⟩)).procedure =
        some ⟨.coreClockFail, none, .condition⟩ ∧
      (after .holdTimerExpiry (held .supplyLow (.hold 1) ⟨false, false, false, true⟩)).procedure =
        some ⟨.pin, none, .condition⟩ ∧
      (after .holdTimerExpiry (held .restart (.hold 1) Conditions.clear)).procedure = none := by decide +kernel

/-- The eight invariants hold in states that are not the reset state; a RESTART keeps its frame's own SDO bytes. -/
theorem test_witness_invariants :
    (w.ClientZeroAdmin ∧ w.KeysUnique ∧ w.BanksCanonical ∧ w.SetsInClass) ∧
      (w.LinesAgree ∧ w.PendingIsChecking ∧ w.DetailsOrHeld) ∧ (wChecking 2 false).PendingIsChecking ∧
      (after .pinOnset w).DetailsOrHeld ∧ (after (.restart 0 []) w).DetailsOrHeld ∧
      (after (.restart 0 []) w).sdo = fill 5 := by
  refine ⟨⟨?_, ?_, ?_, ?_⟩, ⟨?_, ?_, ?_⟩, ?_, ?_, ?_, ?_⟩ <;> decide +kernel

theorem test_witness_pool_exclusive : w.PoolExclusive := by
  unfold State.PoolExclusive
  decide +kernel

theorem test_every_step_answers_a_next_state (s : State) : Completes s := by
  unfold Completes step
  split
  · exact ⟨_, rfl⟩
  · exact exec_next _ _

end Sys2Proof.Tests
end

section
/-! The requests of the Record Table (01_proof_records.md): what each block answers, case by case, and the
obligations on CREATE_RECORD's refusals, FIND_RECORD and SET_ACCESS. -/
namespace Sys2Proof.Machine

/-! ## The commands as requests of their blocks -/

theorem exec_createRecord (client : Byte) (body : List Byte) (s : State) :
    exec (.createRecord client body) s = .next (takeRequest 0x10 createRecord client body s) := rfl

theorem exec_findRecord (client : Byte) (body : List Byte) (s : State) :
    exec (.findRecord client body) s = .next (takeRequest 0x11 findRecord client body s) := rfl

theorem exec_setAccess (client : Byte) (body : List Byte) (s : State) :
    exec (.setAccess client body) s = .next (takeRequest 0x13 setAccess client body s) := rfl

/-! ## The kind code and the keys of the table -/

/-- R186: the codes that name no kind. -/
theorem kindOf_eq_none_iff {code : Byte} : kindOf code = none ↔ code ≠ 1 ∧ code ≠ 2 := by
  unfold kindOf
  split_ifs <;> simp_all

/-- R10: a slot outside FREE holds the key. -/
theorem keyHeld_iff {s : State} {k : Key} : s.keyHeld k = true ↔ ∃ g : Handle, s.records[g].key? = some k := by
  simp only [State.keyHeld, Vector.any_eq_true, decide_eq_true_eq]
  constructor
  · rintro ⟨i, hi, hk⟩; exact ⟨⟨i, hi⟩, hk⟩
  · rintro ⟨g, hk⟩; exact ⟨g.val, g.isLt, hk⟩

theorem lowestFree_eq_none_iff {s : State} :
    s.lowestFree = none ↔ ∀ g : Handle, s.records[g].content ≠ .free := by
  unfold State.lowestFree
  rw [find?_finRange_none]
  exact forall_congr' fun g => decide_eq_false_iff_not

@[simp] theorem keyHeld_driveFill (s : State) (n : Nat) (k : Key) : (s.driveFill n).keyHeld k = s.keyHeld k := rfl
@[simp] theorem lowestFree_driveFill (s : State) (n : Nat) : (s.driveFill n).lowestFree = s.lowestFree := rfl
@[simp] theorem find_driveFill (s : State) (n : Nat) (k : Key) : (s.driveFill n).find k = s.find k := rfl

/-! ## The record a key finds (R13) -/

theorem live_of_find {s : State} {k : Key} {h : Handle} {r : Record} (hf : s.find k = some (h, r)) :
    s.Live h r ∧ r.key = k := by
  obtain ⟨g, -, hg⟩ := List.exists_of_findSome?_eq_some hf
  cases hr : s.record? g with
  | none => simp [hr] at hg
  | some q =>
    simp only [hr, Option.ite_none_right_eq_some, Option.some.injEq, Prod.mk.injEq] at hg
    obtain ⟨hk, rfl, rfl⟩ := hg
    exact ⟨live_of_record? hr, hk⟩

theorem find_eq_none_iff {s : State} {k : Key} : s.find k = none ↔ ∀ g r, s.Live g r → r.key ≠ k := by
  unfold State.find
  rw [List.findSome?_eq_none_iff]
  constructor
  · intro hnone g r hl hk
    have hg := hnone g (List.mem_finRange g)
    simp [record?_live hl, hk] at hg
  · intro hno g _
    cases hr : s.record? g with
    | none => rfl
    | some q => exact if_neg (hno g q (live_of_record? hr))

/-- The only LIVE record with the key is the one found. -/
theorem find_of_unique {s : State} {k : Key} {h : Handle} {r : Record} (hl : s.Live h r) (hk : r.key = k)
    (huniq : ∀ g q, s.Live g q → q.key = k → g = h) : s.find k = some (h, r) := by
  cases hf : s.find k with
  | none => exact absurd hk (find_eq_none_iff.mp hf h r hl)
  | some found =>
    obtain ⟨g, q⟩ := found
    obtain ⟨hlive, hkey⟩ := live_of_find hf
    obtain rfl := huniq g q hlive hkey
    have hqr : some q = some r := by rw [← record?_live hlive, record?_live hl]
    rw [Option.some.inj hqr]

/-! ## CREATE_RECORD: the form of the body (R178, R186) -/

/-- R188: the body of CREATE_RECORD, each access set given or left out. -/
def createBody (code m1 m0 v : Byte) (change lookup : Option Byte) : List Byte :=
  [code, m1, m0, v, (if change.isSome then 1 else 0) + (if lookup.isSome then 2 else 0)] ++ change.toList
    ++ lookup.toList

theorem length_createBody_le (code m1 m0 v : Byte) (change lookup : Option Byte) :
    (createBody code m1 m0 v change lookup).length ≤ 200 := by
  cases change <;> cases lookup <;> simp [createBody]

/-- A body with a presence mask holds the four fields before it. -/
theorem fields_of_presence {body : List Byte} {presence : Byte} (hp : body[4]? = some presence) :
    ∃ code m1 m0 v sets, body = code :: m1 :: m0 :: v :: presence :: sets := by
  rcases body with _ | ⟨code, _ | ⟨m1, _ | ⟨m0, _ | ⟨v, _ | ⟨p, sets⟩⟩⟩⟩⟩
  case cons.cons.cons.cons.cons =>
    obtain rfl := Option.some.inj hp
    exact ⟨code, m1, m0, v, sets, rfl⟩
  all_goals cases hp

/-- The mask says which of the two sets follow. -/
theorem createSets_present (change lookup : Option Byte) :
    createSets ((if change.isSome then 1 else 0) + (if lookup.isSome then 2 else 0)) (change.toList ++ lookup.toList) =
      .ok (change, lookup) := by
  cases change <;> cases lookup <;> rfl

theorem createSets_undefined {presence : Byte} (hp : 3 < presence.toNat) (sets : List Byte) :
    createSets presence sets = .error .badValue := if_pos hp

/-- Bit 0 and bit 1 of a defined mask call for one byte each. -/
theorem createSets_misfit {presence : Byte} {sets : List Byte} (hp : presence.toNat ≤ 3)
    (hlen : sets.length ≠ presence.toNat % 2 + presence.toNat / 2) : createSets presence sets = .error .badLength := by
  have hmask : presence = 0 ∨ presence = 1 ∨ presence = 2 ∨ presence = 3 := by bv_omega
  rcases hmask with rfl | rfl | rfl | rfl
  · rcases sets with _ | ⟨_, _⟩
    · exact absurd rfl hlen
    · rfl
  · rcases sets with _ | ⟨_, _ | ⟨_, _⟩⟩
    · rfl
    · exact absurd rfl hlen
    · rfl
  · rcases sets with _ | ⟨_, _ | ⟨_, _⟩⟩
    · rfl
    · exact absurd rfl hlen
    · rfl
  · rcases sets with _ | ⟨_, _ | ⟨_, _ | ⟨_, _⟩⟩⟩
    · rfl
    · rfl
    · exact absurd rfl hlen
    · rfl

theorem createRecord_short {body : List Byte} (hlen : body.length < 5) (q : Caller) (s : State) :
    createRecord q body s = .refused 1 [.badLength] := by
  rcases body with _ | ⟨_, _ | ⟨_, _ | ⟨_, _ | ⟨_, _ | ⟨_, _⟩⟩⟩⟩⟩
  case cons.cons.cons.cons.cons => simp only [List.length_cons] at hlen; omega
  all_goals rfl

theorem createRecord_sets_error {presence : Byte} {sets : List Byte} {cause : Cause}
    (hsets : createSets presence sets = .error cause) (q : Caller) (code m1 m0 v : Byte) (s : State) :
    createRecord q (code :: m1 :: m0 :: v :: presence :: sets) s = .refused 1 [cause] := by
  simp only [createRecord, hsets]

/-! ## CREATE_RECORD: the key and the table (R10) -/

theorem createRecord_badValue {code m1 m0 : Byte} (hbad : kindOf code = none ∨ u16 m1 m0 = 0) (q : Caller) (v : Byte)
    (change lookup : Option Byte) (s : State) :
    createRecord q (createBody code m1 m0 v change lookup) s = .refused 1 [.badValue] := by
  simp only [createBody, createRecord, List.cons_append, List.nil_append, createSets_present]
  cases hk : kindOf code with
  | none => rfl
  | some kind =>
    have hmedia : u16 m1 m0 = 0 := hbad.resolve_left (by simp [hk])
    simp [refuseIf_one, hmedia]

/-- A body of sound form reaches the checks of group 4. -/
theorem createRecord_key {m1 m0 : Byte} (hmedia : u16 m1 m0 ≠ 0) (q : Caller) (kind : Kind) (v : Byte)
    (change lookup : Option Byte) (s : State) :
    createRecord q (createBody (encKind kind) m1 m0 v change lookup) s =
      createKey q ⟨kind, u16 m1 m0, v.toNat⟩ (change, lookup) s := by
  simp only [createBody, createRecord, List.cons_append, List.nil_append, createSets_present, kindOf_encKind]
  simp [refuseIf_one, hmedia]

/-- R10: every cause of group 4 that holds is reported. -/
theorem createKey_refused {s : State} {k : Key} (hfail : s.keyHeld k = true ∨ s.lowestFree = none) (q : Caller)
    (sets : Option Byte × Option Byte) :
    createKey q k sets s =
      .refused 4 (failing [(.keyTaken, s.keyHeld k), (.tableFull, s.lowestFree.isNone)]) := by
  unfold createKey
  rcases hfail with hheld | hfull
  · rw [hheld]
    cases s.lowestFree <;> rfl
  · rw [hfull]

/-- A taken CREATE_RECORD whose block refuses. -/
theorem exec_createRecord_refused {s : State} (ht : s.Takes) {c : ClientId} {body : List Byte} {g : Nat}
    {causes : List Cause} (hb : body.length ≤ 200)
    (hrefused : createRecord (s.caller c) body (s.driveFill (5 + body.length)) = .refused g causes) :
    exec (.createRecord (clientByte c) body) s = .next (s.refuses c 0x10 body.length g causes) := by
  rw [exec_createRecord, request_refused ht hb hrefused]

/-- R10: a taken CREATE_RECORD of sound form whose key is held or whose table is full. -/
theorem exec_createRecord_group4 {s : State} (ht : s.Takes) (c : ClientId) {kind : Kind} {m1 m0 v : Byte}
    (hmedia : u16 m1 m0 ≠ 0) (change lookup : Option Byte)
    (hfail : s.keyHeld ⟨kind, u16 m1 m0, v.toNat⟩ = true ∨ s.lowestFree = none) :
    exec (.createRecord (clientByte c) (createBody (encKind kind) m1 m0 v change lookup)) s =
      .next (s.refuses c 0x10 (createBody (encKind kind) m1 m0 v change lookup).length 4
        (failing [(.keyTaken, s.keyHeld ⟨kind, u16 m1 m0, v.toNat⟩), (.tableFull, s.lowestFree.isNone)])) :=
  exec_createRecord_refused ht (length_createBody_le ..)
    ((createRecord_key hmedia ..).trans (createKey_refused (s := s.driveFill _) hfail ..))

/-! ## FIND_RECORD (R13) -/

theorem findRecord_badValue {code m1 m0 : Byte} (hbad : kindOf code = none ∨ u16 m1 m0 = 0) (q : Caller) (v : Byte)
    (s : State) : findRecord q [code, m1, m0, v] s = .refused 1 [.badValue] := by
  simp only [findRecord]
  cases hk : kindOf code with
  | none => rfl
  | some kind =>
    have hmedia : u16 m1 m0 = 0 := hbad.resolve_left (by simp [hk])
    simp [refuseIf_one, hmedia]

theorem findRecord_absent {s : State} {kind : Kind} {m1 m0 v : Byte} (hmedia : u16 m1 m0 ≠ 0)
    (hfind : s.find ⟨kind, u16 m1 m0, v.toNat⟩ = none) (q : Caller) :
    findRecord q [encKind kind, m1, m0, v] s = .refused 2 [.noSuchRecord] := by
  simp [findRecord, refuseIf_one, hmedia, hfind]

theorem findRecord_present {s : State} {kind : Kind} {m1 m0 v : Byte} {h : Handle} {r : Record}
    (hmedia : u16 m1 m0 ≠ 0) (hfind : s.find ⟨kind, u16 m1 m0, v.toNat⟩ = some (h, r)) (q : Caller) :
    findRecord q [encKind kind, m1, m0, v] s =
      if q.canLookup r then .done [byteOf h.val] s else .refused 3 [.notPermitted] := by
  cases hl : q.canLookup r <;> simp [findRecord, refuseIf_one, hmedia, hfind, hl]

/-! ## SET_ACCESS (R15) -/

theorem setAccess_live {s : State} {h : Handle} {r : Record} (hl : s.Live h r) (q : Caller) (change lookup : Byte) :
    setAccess q [byteOf h.val, change, lookup] s =
      if q.isOwner r then .done [] (s.putRecord h { r with change := change, lookup := lookup })
      else .refused 3 [.notPermitted] :=
  onRecord_live hl q.isOwner _

end Sys2Proof.Machine

/-! ## The obligations -/

namespace Sys2Proof.Proofs
open Sys2Proof Sys2Proof.Machine

/-- Settles O12: each clause is the block's verdict on that body (form, then key and table), completed as a refusal. -/
theorem createRecordRefusals : Obligations.CreateRecordRefusals := by
  refine ⟨?_, ?_⟩
  · intro s c code m1 m0 v change lookup ht presence body full taken
    refine ⟨fun hbad => ?badValue, ?group4⟩
    case badValue =>
      exact exec_createRecord_refused ht (length_createBody_le ..)
        (createRecord_badValue (hbad.imp_left kindOf_eq_none_iff.mpr) ..)
    case group4 =>
      rintro kind rfl hmedia
      have hheld : s.keyHeld ⟨kind, u16 m1 m0, v.toNat⟩ = true ↔ taken kind := keyHeld_iff
      have hnone : s.lowestFree.isNone = true ↔ full := Option.isNone_iff_eq_none.trans lowestFree_eq_none_iff
      have hexec := exec_createRecord_group4 ht c (kind := kind) (v := v) hmedia change lookup
      refine ⟨fun hk hf => ?both, fun hk hf => ?keyTaken, fun hk hf => ?tableFull⟩
      case both =>
        rw [hheld.mpr hk, hnone.mpr hf] at hexec
        exact hexec (.inl rfl)
      case keyTaken =>
        rw [hheld.mpr hk, Bool.eq_false_iff.mpr (mt hnone.mp hf)] at hexec
        exact hexec (.inl rfl)
      case tableFull =>
        rw [Bool.eq_false_iff.mpr (mt hheld.mp hk), hnone.mpr hf] at hexec
        exact hexec (.inr (lowestFree_eq_none_iff.mpr hf))
  · intro s c body ht hb
    refine ⟨fun hshort => exec_createRecord_refused ht hb (createRecord_short hshort ..), fun presence hpresence => ?_⟩
    obtain ⟨code, m1, m0, v, sets, rfl⟩ := fields_of_presence hpresence
    refine ⟨fun hp => ?undefined, fun hp hlen => ?misfit⟩
    case undefined =>
      exact exec_createRecord_refused ht hb (createRecord_sets_error (createSets_undefined hp sets) ..)
    case misfit =>
      have hsets : sets.length ≠ presence.toNat % 2 + presence.toNat / 2 := by
        simp only [List.length_cons] at hlen; omega
      exact exec_createRecord_refused ht hb (createRecord_sets_error (createSets_misfit hp hsets) ..)

/-- Settles O13: the search by key finds the only LIVE record that holds it, and the answer is by lookup access. -/
theorem findRecordAnswersByKey : Obligations.FindRecordAnswersByKey := by
  intro s c code m1 m0 v ht
  refine ⟨fun hbad => ?badValue, ?found⟩
  case badValue =>
    rw [exec_findRecord, request_refused ht (by simp)
      (findRecord_badValue (hbad.imp_left kindOf_eq_none_iff.mpr) ..)]
    rfl
  case found =>
    rintro kind rfl hmedia
    refine ⟨fun hno => ?absent, fun h r hl hk huniq => ?present⟩
    case absent =>
      have hfind : (s.driveFill 9).find _ = none := find_eq_none_iff.mpr hno
      rw [exec_findRecord, request_refused ht (by simp) (findRecord_absent hmedia hfind _)]
      rfl
    case present =>
      have hfind : (s.driveFill 9).find _ = some (h, r) := find_of_unique hl hk huniq
      have hverdict := findRecord_present hmedia hfind (s.caller c)
      refine ⟨fun hnot => ?refused, fun hmay => ?answered⟩
      case refused =>
        rw [if_neg (mt (canLookup_iff s c r).mp hnot)] at hverdict
        rw [exec_findRecord, request_refused ht (by simp) hverdict]
        rfl
      case answered =>
        rw [if_pos ((canLookup_iff s c r).mpr hmay)] at hverdict
        rw [exec_findRecord, request_done ht (by simp) hverdict]
        rfl

/-- Settles O15: the block answers by owner access, and the stored record differs in its two sets alone. -/
theorem setAccessReplacesBothSets : Obligations.SetAccessReplacesBothSets := by
  intro s c h r change lookup ht hl
  have hverdict := setAccess_live (s := s.driveFill 8) hl (s.caller c) change lookup
  refine ⟨fun hown => ?owner, fun hnot => ?other⟩
  case owner =>
    rw [if_pos ((isOwner_iff s c r).mpr hown)] at hverdict
    rw [exec_setAccess, request_done ht (by simp) hverdict]
    rfl
  case other =>
    rw [if_neg (mt (isOwner_iff s c r).mp hnot)] at hverdict
    rw [exec_setAccess, request_refused ht (by simp) hverdict]
    rfl

end Sys2Proof.Proofs
end

section
/-! What a change of the state keeps of the eight invariants (Safety.lean): one rule per operation of the machine.
`Keeps` is the relation every event of a block satisfies; the obligations on the invariants follow from it. -/
namespace Sys2Proof.Machine

/-! ## Reading a vector at a number of its own range -/

theorem getElem_set_fin {α : Type} {n : Nat} (v : Vector α n) (i j : Fin n) (x : α) :
    (v.set i x)[j] = if i = j then x else v[j] := by
  simp only [Fin.getElem_fin, Vector.getElem_set, Fin.ext_iff]

theorem getElem_map_fin {α β : Type} {n : Nat} (f : α → β) (v : Vector α n) (i : Fin n) : (v.map f)[i] = f v[i] := by
  simp only [Fin.getElem_fin, Vector.getElem_map]

theorem getElem_replicate_fin {α : Type} {n : Nat} (x : α) (i : Fin n) : (Vector.replicate n x)[i] = x := by
  simp only [Fin.getElem_fin, Vector.getElem_replicate]

/-! ## Indication sets within a class (R151) -/

/-- No indication of the set stands outside the class. -/
def InClass (members set : Byte) : Prop := set &&& ~~~members = 0

theorem inClass_zero (members : Byte) : InClass members 0 := by simp [InClass]

theorem InClass.or {members x y : Byte} (hx : InClass members x) (hy : InClass members y) :
    InClass members (x ||| y) := by
  unfold InClass at *
  rw [BitVec.and_comm, BitVec.and_or_distrib_left, BitVec.and_comm _ x, BitVec.and_comm _ y, hx, hy]
  rfl

theorem InClass.and {members x : Byte} (hx : InClass members x) (y : Byte) : InClass members (x &&& y) := by
  unfold InClass at *
  rw [BitVec.and_assoc, BitVec.and_comm y, ← BitVec.and_assoc, hx]
  exact BitVec.zero_and

theorem mem_allSources (src : Source) : src ∈ allSources := by
  cases src <;> simp [allSources]

/-- R151, for every source. -/
theorem setsInClass_iff {s : State} :
    s.SetsInClass ↔ ∀ src : Source, InClass src.members (s.pendingOf src) ∧ InClass src.members (s.enabledOf src) :=
  ⟨fun h src => h src (mem_allSources src), fun h src _ => h src⟩

/-! ## Bits of a byte -/

/-- Latching other indications leaves the test of a bit as it is. -/
theorem or_and_other {x y m : Byte} (h : y &&& m = 0) : (x ||| y) &&& m = x &&& m := by
  rw [BitVec.and_comm, BitVec.and_or_distrib_left, BitVec.and_comm m y, h, BitVec.and_comm]
  exact BitVec.or_zero

/-- A latched indication is pending. -/
theorem or_and_own {x m : Byte} (h : m ≠ 0) : (x ||| m) &&& m ≠ 0 := by
  rw [BitVec.and_comm, BitVec.and_or_distrib_left, BitVec.and_self]
  exact fun e => h (BitVec.or_eq_zero_iff.mp e).2

theorem or_ne_zero {w : Nat} {x y : BitVec w} (h : y ≠ 0) : x ||| y ≠ 0 := fun e => h (BitVec.or_eq_zero_iff.mp e).2

theorem clientBit_ne_zero (c : ClientId) : clientBit c ≠ 0 := by revert c; decide

theorem handleBit_ne_zero (h : Handle) : handleBit h ≠ 0 := by revert h; decide

/-! ## The invariants, each from what it reads -/

/-- R3: keys stay unique where slots keep their key or lose it. -/
theorem keysUnique_of {s t : State}
    (hk : ∀ g : Handle, t.records[g].key? = none ∨ t.records[g].key? = s.records[g].key?)
    (h : s.KeysUnique) : t.KeysUnique := by
  intro g g' hsome heq
  have hg : t.records[g].key? = s.records[g].key? := (hk g).resolve_left fun e => by rw [e] at hsome; cases hsome
  have hg' : t.records[g'].key? = s.records[g'].key? :=
    (hk g').resolve_left fun e => by rw [heq, e] at hsome; cases hsome
  exact h g g' (by rwa [← hg]) (by rw [← hg, ← hg', heq])

/-- R28, R33: the pool stays exclusive where owners keep what they own or let it go. -/
theorem poolExclusive_of {s t : State} (hb : ∀ g, t.bankOf g = none ∨ t.bankOf g = s.bankOf g)
    (hc : ∀ c : ContextId, t.contexts[c].bank? = none ∧ t.contexts[c].record? = none ∨
      t.contexts[c].bank? = s.contexts[c].bank? ∧ t.contexts[c].record? = s.contexts[c].record?)
    (hl : ∀ (c : ContextId) (g : Handle), t.contexts[c].record? = some g → (s.record? g).isSome → (t.record? g).isSome)
    (h : s.PoolExclusive) : t.PoolExclusive := by
  obtain ⟨h1, h2, h3, h4, h5⟩ := h
  have bank {g} (e : (t.bankOf g).isSome) : t.bankOf g = s.bankOf g :=
    (hb g).resolve_left fun n => by rw [n] at e; cases e
  have cbank {c : ContextId} (e : (t.contexts[c].bank?).isSome) : t.contexts[c].bank? = s.contexts[c].bank? :=
    ((hc c).resolve_left fun n => by rw [n.1] at e; cases e).1
  have crec {c : ContextId} (e : (t.contexts[c].record?).isSome) : t.contexts[c].record? = s.contexts[c].record? :=
    ((hc c).resolve_left fun n => by rw [n.2] at e; cases e).2
  refine ⟨fun g g' e q => ?_, fun g c e q => ?_, fun c d e q => ?_, fun c d e q => ?_, fun c g e => ?_⟩
  · exact h1 g g' (bank e ▸ e) (by rw [← bank e, ← bank (q ▸ e), q])
  · exact h2 g c (bank e ▸ e) (by rw [← bank e, ← cbank (q ▸ e), q])
  · exact h3 c d (cbank e ▸ e) (by rw [← cbank e, ← cbank (q ▸ e), q])
  · exact h4 c d (crec e ▸ e) (by rw [← crec e, ← crec (q ▸ e), q])
  · exact hl c g e (h5 c g (by rw [← crec (e ▸ rfl), e]))

/-- R46: the check invariant reads the response and which contexts are CHECKING. -/
theorem pendingIsChecking_of {s t : State} (hr : t.response = s.response)
    (hc : ∀ c : ContextId, t.contexts[c].isChecking = s.contexts[c].isChecking) (h : s.PendingIsChecking) :
    t.PendingIsChecking := by
  unfold State.PendingIsChecking
  simpa only [hr, hc] using h

/-- R46: with no response PENDING, no context is CHECKING. -/
theorem notChecking_of_free {s : State} (h : s.PendingIsChecking) (hr : s.response ≠ .pending) (c : ContextId) :
    s.contexts[c].isChecking = false :=
  Bool.eq_false_iff.mpr fun e => hr (h.1.mpr ⟨c, e⟩)

/-- R46: the invariant where the slot is not PENDING says that no context is CHECKING. -/
theorem pendingIsChecking_free {t : State} (hr : t.response ≠ .pending)
    (hc : ∀ c : ContextId, t.contexts[c].isChecking = false) : t.PendingIsChecking :=
  ⟨⟨fun e => absurd e hr, fun ⟨c, e⟩ => absurd e (Bool.eq_false_iff.mp (hc c))⟩,
    fun c _ e => absurd e (Bool.eq_false_iff.mp (hc c))⟩

/-! ## The relation -/

/-- The invariants a change keeps, apart from that of the proof-valid lines. -/
structure KeepsTables (s t : State) : Prop where
  procedure : t.procedure = s.procedure
  admin : s.ClientZeroAdmin → t.ClientZeroAdmin
  keys : s.KeysUnique → t.KeysUnique
  banks : s.BanksCanonical → t.BanksCanonical
  sets : s.SetsInClass → t.SetsInClass
  checks : s.PendingIsChecking → t.PendingIsChecking
  details : s.DetailsMatch → t.DetailsMatch
  pool : s.PoolExclusive → t.PoolExclusive

/-- A change that takes place outside a procedure and keeps every invariant. -/
structure Keeps (s t : State) : Prop extends KeepsTables s t where
  lines : s.LinesAgree → t.LinesAgree

theorem Keeps.refl (s : State) : Keeps s s := ⟨⟨rfl, id, id, id, id, id, id, id⟩, id⟩

theorem KeepsTables.trans {s t u : State} (h : KeepsTables s t) (k : KeepsTables t u) : KeepsTables s u :=
  ⟨k.procedure.trans h.procedure, k.admin ∘ h.admin, k.keys ∘ h.keys, k.banks ∘ h.banks, k.sets ∘ h.sets,
    k.checks ∘ h.checks, k.details ∘ h.details, k.pool ∘ h.pool⟩

theorem Keeps.trans {s t u : State} (h : Keeps s t) (k : Keeps t u) : Keeps s u :=
  ⟨h.toKeepsTables.trans k.toKeepsTables, k.lines ∘ h.lines⟩

/-! ## The link and the global source -/

theorem keeps_sdo (s : State) (x : List Byte) : Keeps s { s with sdo := x } := ⟨⟨rfl, id, id, id, id, id, id, id⟩, id⟩

theorem keeps_driveFill (s : State) (n : Nat) : Keeps s (s.driveFill n) := keeps_sdo s _

theorem keeps_receiver (s : State) (x : Receiver) : Keeps s { s with receiver := x } :=
  ⟨⟨rfl, id, id, id, id, id, id, id⟩, id⟩

theorem keeps_clients {s : State} {x : Vector ClientFlags 8} (h : s.ClientZeroAdmin → x[0].admin = true) :
    Keeps s { s with clients := x } :=
  ⟨⟨rfl, h, id, id, id, id, id, id⟩, id⟩

/-- The global source changes within its class and with its details. -/
theorem keeps_global {s : State} {g : Global} (hp : InClass 0x1F s.global.pending → InClass 0x1F g.pending)
    (he : InClass 0x1F s.global.enabled → InClass 0x1F g.enabled)
    (hd : s.DetailsMatch → State.DetailsMatch { s with global := g }) : Keeps s { s with global := g } where
  procedure := rfl
  admin := id
  keys := id
  banks := id
  checks := id
  details := hd
  pool := id
  lines := id
  sets h := by
    rw [setsInClass_iff] at h ⊢
    intro src
    cases src with
    | global => exact (h .global).imp hp he
    | slot n => exact h (.slot n)
    | lane n => exact h (.lane n)
    | channel n => exact h (.channel n)
    | record n => exact h (.record n)

/-- R172, R91: a latch without a detail set. -/
theorem detailsMatch_latch {s : State} {g : Global} {mask : Byte} (h1 : mask &&& 0x01 = 0) (h2 : mask &&& 0x02 = 0)
    (h3 : mask &&& 0x10 = 0) (hp : g.pending = s.global.pending ||| mask) (hr : g.resetReasons = s.global.resetReasons)
    (he : g.expired = s.global.expired) (hf : g.faultSet = s.global.faultSet) (h : s.DetailsMatch) :
    State.DetailsMatch { s with global := g } := by
  unfold State.DetailsMatch at *
  simpa only [hp, hr, he, hf, or_and_other h1, or_and_other h2, or_and_other h3] using h

theorem keeps_discardFrame (s : State) (x : LinkFault) : Keeps s (s.discardFrame x) :=
  keeps_global (fun h => h.or rfl) id (detailsMatch_latch (mask := indLinkFrameError) rfl rfl rfl rfl rfl rfl rfl)

theorem keeps_discardMessage (s : State) (x : InstrumentFault) : Keeps s (s.discardMessage x) :=
  (keeps_receiver s .hunting).trans
    (keeps_global (s := s.hunt) (fun h => h.or rfl) id
      (detailsMatch_latch (mask := indInstrumentFrameError) rfl rfl rfl rfl rfl rfl rfl))

theorem keeps_noteFault (s : State) (c : ClientId) (strict : Bool) : Keeps s (s.noteFault c strict) := by
  unfold State.noteFault
  split
  · refine keeps_global (fun h => h.or rfl) id fun ⟨hr, he, hf⟩ => ⟨?_, ?_, ?_⟩
    · rwa [or_and_other rfl]
    · rwa [or_and_other rfl]
    · exact iff_of_true (or_and_own (by decide)) (or_ne_zero (clientBit_ne_zero c))
  · exact Keeps.refl s

/-- R174: an answer replaces a slot that is not PENDING. -/
theorem keeps_respond {s : State} (h : s.response ≠ .pending) (kind : Byte) (o : OutcomeCode) (g : Nat)
    (cs : List Cause) (bs : List Byte) : Keeps s (s.respond kind o g cs bs) where
  procedure := rfl
  admin := id
  keys := id
  banks := id
  sets := id
  details := id
  pool := id
  lines := id
  checks hc := pendingIsChecking_free (nofun) fun c => notChecking_of_free (s := s) hc h c

/-! ## Lanes, channels and slots -/

theorem keeps_lanes {s : State} {v : Vector Lane 2}
    (h : ∀ l : LaneId, (InClass 0x07 s.lanes[l].pending → InClass 0x07 v[l].pending) ∧
      (InClass 0x07 s.lanes[l].enabled → InClass 0x07 v[l].enabled)) : Keeps s { s with lanes := v } where
  procedure := rfl
  admin := id
  keys := id
  banks := id
  checks := id
  details := id
  pool := id
  lines := id
  sets hs := by
    rw [setsInClass_iff] at hs ⊢
    intro src
    cases src with
    | lane n => exact (hs (.lane n)).imp (h n).1 (h n).2
    | global => exact hs .global
    | slot n => exact hs (.slot n)
    | channel n => exact hs (.channel n)
    | record n => exact hs (.record n)

theorem keeps_setLane {s : State} {l : LaneId} {x : Lane}
    (hp : InClass 0x07 s.lanes[l].pending → InClass 0x07 x.pending)
    (he : InClass 0x07 s.lanes[l].enabled → InClass 0x07 x.enabled) : Keeps s (s.setLane l x) := by
  refine keeps_lanes fun k => ?_
  rw [getElem_set_fin]
  split
  · next e => subst e; exact ⟨hp, he⟩
  · exact ⟨id, id⟩

theorem keeps_channels {s : State} {v : Vector Channel 6}
    (h : ∀ c : ChannelId, (InClass 0x07 s.channels[c].pending → InClass 0x07 v[c].pending) ∧
      (InClass 0x07 s.channels[c].enabled → InClass 0x07 v[c].enabled)) : Keeps s { s with channels := v } where
  procedure := rfl
  admin := id
  keys := id
  banks := id
  checks := id
  details := id
  pool := id
  lines := id
  sets hs := by
    rw [setsInClass_iff] at hs ⊢
    intro src
    cases src with
    | channel n => exact (hs (.channel n)).imp (h n).1 (h n).2
    | global => exact hs .global
    | slot n => exact hs (.slot n)
    | lane n => exact hs (.lane n)
    | record n => exact hs (.record n)

theorem keeps_setChannel {s : State} {c : ChannelId} {x : Channel}
    (hp : InClass 0x07 s.channels[c].pending → InClass 0x07 x.pending)
    (he : InClass 0x07 s.channels[c].enabled → InClass 0x07 x.enabled) : Keeps s (s.setChannel c x) := by
  refine keeps_channels fun k => ?_
  rw [getElem_set_fin]
  split
  · next e => subst e; exact ⟨hp, he⟩
  · exact ⟨id, id⟩

/-- R105: an abandonment latches STRIP_ABANDONED at most. -/
theorem abandon_inClass (ch : Channel) (x : AbandonCause) (h : InClass 0x07 ch.pending) :
    InClass 0x07 (ch.abandon x).pending := h.or rfl

theorem abandonOpen_inClass (ch : Channel) (x : AbandonCause) (h : InClass 0x07 ch.pending) :
    InClass 0x07 (ch.abandonOpen x).pending := by
  unfold Channel.abandonOpen
  split
  · exact abandon_inClass ch x h
  · exact h

theorem abandonOpen_enabled (ch : Channel) (x : AbandonCause) : (ch.abandonOpen x).enabled = ch.enabled := by
  unfold Channel.abandonOpen
  split <;> rfl

theorem keeps_abandonStrip (s : State) (c : ChannelId) (x : AbandonCause) : Keeps s (s.abandonStrip c x) :=
  keeps_setChannel (abandonOpen_inClass _ x) (by rw [abandonOpen_enabled]; exact id)

theorem keeps_abandonAttached (s : State) (h : Handle) : Keeps s (s.abandonAttached h) := by
  refine keeps_channels fun c => ?_
  rw [show (Vector.ofFn _)[c] = _ from abandonAttached_channel s h c]
  split
  · exact ⟨abandonOpen_inClass _ _, by rw [abandonOpen_enabled]; exact id⟩
  · exact ⟨id, id⟩

/-- The slots change within their class; what the lines say of it is apart. -/
theorem keepsTables_slots {s : State} {v : Vector PrinterSlot 4}
    (h : ∀ n : SlotId, (InClass 0x01 s.slots[n].pending → InClass 0x01 v[n].pending) ∧
      (InClass 0x01 s.slots[n].enabled → InClass 0x01 v[n].enabled)) : KeepsTables s { s with slots := v } where
  procedure := rfl
  admin := id
  keys := id
  banks := id
  checks := id
  details := id
  pool := id
  sets hs := by
    rw [setsInClass_iff] at hs ⊢
    intro src
    cases src with
    | slot n => exact (hs (.slot n)).imp (h n).1 (h n).2
    | global => exact hs .global
    | channel n => exact hs (.channel n)
    | lane n => exact hs (.lane n)
    | record n => exact hs (.record n)

/-! ## The line machine (R141) -/

theorem lineCondition_eq (s : State) (n : SlotId) :
    s.lineCondition n = ((s.slots[n].paper.bind s.record?).map fun r => r.state.inMatch).getD false := by
  unfold State.lineCondition
  cases s.slots[n].paper with
  | none => rfl
  | some h => cases hr : s.record? h <;> simp [hr]

theorem noteOutput_inClass (old new : PrinterSlot) (h : InClass 0x01 new.pending) :
    InClass 0x01 (old.noteOutput new).pending := by
  unfold PrinterSlot.noteOutput
  split
  · exact h
  · exact h.or rfl

/-- Noting a changed output changes the pending set alone. -/
theorem noteOutput_keeps (old new : PrinterSlot) :
    (old.noteOutput new).paper = new.paper ∧ (old.noteOutput new).override = new.override ∧
      (old.noteOutput new).line = new.line ∧ (old.noteOutput new).enabled = new.enabled := by
  unfold PrinterSlot.noteOutput
  split <;> exact ⟨rfl, rfl, rfl, rfl⟩

theorem edge_inClass (p : PrinterSlot) (was now : Bool) (h : InClass 0x01 p.pending) :
    InClass 0x01 (p.edge was now).pending := by
  unfold PrinterSlot.edge
  split
  · exact h
  · exact h
  · split
    · exact h
    · exact noteOutput_inClass _ _ h

theorem lineAgrees_rise {line : LineState} (t1 : Nat) : lineAgrees .auto (line.rise t1) true = true := by
  cases line with
  | off => unfold LineState.rise; split_ifs <;> rfl
  | arming _ => rfl
  | on => rfl
  | releasing _ => rfl

theorem lineAgrees_fall {line : LineState} (t2 : Nat) : lineAgrees .auto (line.fall t2) false = true := by
  cases line with
  | on => unfold LineState.fall; split_ifs <;> rfl
  | arming _ => rfl
  | off => rfl
  | releasing _ => rfl

/-- R141: an edge keeps the line state in step with the condition. -/
theorem lineAgrees_edge {p : PrinterSlot} {was now : Bool} (h : lineAgrees p.override p.line was = true) :
    lineAgrees (p.edge was now).override (p.edge was now).line now = true := by
  by_cases hsame : was = now
  · rw [← hsame, edge_same]; exact h
  · cases ho : p.override with
    | auto =>
      unfold PrinterSlot.edge
      rw [ho]
      simp only [if_neg hsame, (noteOutput_keeps p _).2.1, (noteOutput_keeps p _).2.2.1]
      cases now with
      | true => exact lineAgrees_rise p.t1
      | false => exact lineAgrees_fall p.t2
    | forceOn =>
      rw [edge_frozen (by simp [ho]), ho]; rw [ho] at h; exact h
    | forceOff =>
      rw [edge_frozen (by simp [ho]), ho]; rw [ho] at h; exact h

theorem lineCondition_settle (old new : State) (n : SlotId) :
    (old.settleLines new).lineCondition n = new.lineCondition n := by
  have hrec : (old.settleLines new).record? = new.record? := rfl
  rw [lineCondition_eq, lineCondition_eq, settleLines_slot, (edge_keeps _ _ _).1, hrec]

/-- R140, R141: settling the lines brings every machine in step with the new conditions. -/
theorem keeps_settleLines {old new : State} (h : KeepsTables old new)
    (hsame : ∀ n : SlotId, new.slots[n].override = old.slots[n].override ∧ new.slots[n].line = old.slots[n].line) :
    Keeps old (old.settleLines new) where
  toKeepsTables := h.trans (keepsTables_slots fun n => by
    rw [show (Vector.ofFn _)[n] = _ from settleLines_slot old new n]
    exact ⟨edge_inClass _ _ _, by rw [(edge_keeps _ _ _).2.2.2.2]; exact id⟩)
  lines hl n := by
    rw [lineCondition_settle, settleLines_slot]
    refine lineAgrees_edge ?_
    rw [(hsame n).1, (hsame n).2]
    exact hl n

/-- A slot changes with its paper kept and its machine still in step. -/
theorem keeps_setSlot {s : State} {n : SlotId} {x : PrinterSlot}
    (hp : InClass 0x01 s.slots[n].pending → InClass 0x01 x.pending)
    (he : InClass 0x01 s.slots[n].enabled → InClass 0x01 x.enabled) (hpaper : x.paper = s.slots[n].paper)
    (hl : lineAgrees s.slots[n].override s.slots[n].line (s.lineCondition n) = true →
      lineAgrees x.override x.line (s.lineCondition n) = true) : Keeps s (s.setSlot n x) where
  toKeepsTables := keepsTables_slots fun k => by
    rw [getElem_set_fin]
    split
    · next e => subst e; exact ⟨hp, he⟩
    · exact ⟨id, id⟩
  lines h k := by
    have hrec : (s.setSlot n x).record? = s.record? := rfl
    have hcond : (s.setSlot n x).lineCondition k = s.lineCondition k := by
      rw [lineCondition_eq, lineCondition_eq, hrec, setSlot_slots, getElem_set_fin]
      split
      · next e => rw [← e, hpaper]
      · rfl
    rw [hcond, setSlot_slots, getElem_set_fin]
    split
    · next e => subst e; exact hl (h n)
    · exact h k

end Sys2Proof.Machine
end

section
/-! What the Record Table's and the Grid Pool's operations keep of the eight invariants. -/
namespace Sys2Proof.Machine

/-! ## Reading a record after a write (R1) -/

/-- The LIVE record a slot holds. -/
def RecordSlot.live? (x : RecordSlot) : Option Record :=
  match x.content with
  | .live r => some r
  | .free => none
  | .retiring _ _ => none

theorem record?_eq (s : State) (h : Handle) : s.record? h = s.records[h].live? := rfl

theorem record?_setRecord (s : State) (h g : Handle) (x : RecordSlot) :
    (s.setRecord h x).record? g = if h = g then x.live? else s.record? g := by
  rw [record?_eq, setRecord_records, getElem_set_fin, record?_eq]
  split <;> rfl

theorem bankOf_setRecord (s : State) (h g : Handle) (x : RecordSlot) :
    (s.setRecord h x).bankOf g = if h = g then x.live?.bind (·.bank) else s.bankOf g := by
  unfold State.bankOf
  rw [record?_setRecord]
  split <;> rfl

theorem bankOf_live {s : State} {h : Handle} {r : Record} (hl : s.Live h r) : s.bankOf h = r.bank := by
  unfold State.bankOf
  rw [record?_live hl]
  rfl

theorem key?_live {s : State} {h : Handle} {r : Record} (hl : s.Live h r) : s.records[h].key? = some r.key := by
  unfold RecordSlot.key?
  rw [hl]

theorem record?_isSome {s : State} {h : Handle} {r : Record} (hl : s.Live h r) : (s.record? h).isSome = true := by
  rw [record?_live hl]
  rfl

/-! ## Writing a record slot -/

theorem sets_setRecord {s : State} {h : Handle} {x : RecordSlot}
    (hp : InClass 0x3F s.records[h].pending → InClass 0x3F x.pending)
    (he : InClass 0x3F s.records[h].enabled → InClass 0x3F x.enabled) (hs : s.SetsInClass) :
    (s.setRecord h x).SetsInClass := by
  rw [setsInClass_iff] at hs ⊢
  intro src
  cases src with
  | record g =>
    have hg := hs (.record g)
    simp only [State.pendingOf, State.enabledOf, setRecord_records, getElem_set_fin] at hg ⊢
    split
    · next e => subst e; exact hg.imp hp he
    · exact hg
  | global => exact hs .global
  | slot n => exact hs (.slot n)
  | lane n => exact hs (.lane n)
  | channel n => exact hs (.channel n)

/-- A slot that loses its record lets its bank go; no context belongs to it. -/
theorem poolExclusive_freeRecord {s : State} {h : Handle} {x : RecordSlot} (hx : x.live? = none)
    (hfree : ∀ c : ContextId, s.contexts[c].record? ≠ some h) : s.PoolExclusive → (s.setRecord h x).PoolExclusive := by
  refine poolExclusive_of (fun g => ?_) (fun c => .inr ⟨rfl, rfl⟩) (fun c g hg hsome => ?_)
  · rw [bankOf_setRecord]
    split
    · rw [hx]; exact .inl rfl
    · exact .inr rfl
  · rw [record?_setRecord, if_neg fun e : h = g => hfree c (e ▸ hg)]
    exact hsome

theorem keysUnique_setRecord {s : State} {h : Handle} {x : RecordSlot}
    (hk : x.key? = none ∨ x.key? = s.records[h].key?) : s.KeysUnique → (s.setRecord h x).KeysUnique :=
  keysUnique_of fun g => by
    rw [setRecord_records, getElem_set_fin]
    split
    · next e => exact e ▸ hk
    · exact .inr rfl

/-- A LIVE record keeps its key and its bank. -/
theorem keepsTables_liveRecord {s : State} {h : Handle} {r r' : Record} {p : Byte} (hl : s.Live h r)
    (hk : r'.key = r.key) (hb : r'.bank = r.bank)
    (hp : InClass 0x3F s.records[h].pending → InClass 0x3F p) :
    KeepsTables s (s.setRecord h ⟨.live r', p, s.records[h].enabled⟩) where
  procedure := rfl
  admin := id
  banks := id
  checks := id
  details := id
  sets := sets_setRecord hp id
  keys := keysUnique_setRecord (.inr ((congrArg some hk).trans (key?_live hl).symm))
  pool := poolExclusive_of
    (fun g => by
      rw [bankOf_setRecord]
      split
      · next e => subst e; rw [bankOf_live hl]; exact .inr hb
      · exact .inr rfl)
    (fun c => .inr ⟨rfl, rfl⟩)
    (fun c g _ hsome => by
      rw [record?_setRecord]
      split
      · rfl
      · exact hsome)

/-- The condition of a slot reads the match state of its paper alone. -/
theorem lineCondition_setRecord {s : State} {h : Handle} {x : RecordSlot}
    (hm : x.live?.map (fun r => r.state.inMatch) = (s.record? h).map fun r => r.state.inMatch) (n : SlotId) :
    (s.setRecord h x).lineCondition n = s.lineCondition n := by
  rw [lineCondition_eq, lineCondition_eq, setRecord_slots]
  cases s.slots[n].paper with
  | none => rfl
  | some g =>
    rw [Option.bind_some, Option.bind_some, record?_setRecord]
    split
    · next e => rw [← e, hm]
    · rfl

theorem linesAgree_of {s t : State} (hs : t.slots = s.slots) (hc : ∀ n, t.lineCondition n = s.lineCondition n)
    (h : s.LinesAgree) : t.LinesAgree := fun n => by rw [hs, hc]; exact h n

/-- The indication sets of a slot change, and its content is kept. -/
theorem keeps_recordSets {s : State} {h : Handle} {p e : Byte}
    (hp : InClass 0x3F s.records[h].pending → InClass 0x3F p)
    (he : InClass 0x3F s.records[h].enabled → InClass 0x3F e) :
    Keeps s (s.setRecord h ⟨s.records[h].content, p, e⟩) := by
  have hrec (g : Handle) : (s.setRecord h ⟨s.records[h].content, p, e⟩).record? g = s.record? g := by
    rw [record?_setRecord]
    split
    · next e => subst e; rfl
    · rfl
  exact {
    procedure := rfl
    admin := id
    banks := id
    checks := id
    details := id
    sets := sets_setRecord hp he
    keys := keysUnique_setRecord (.inr rfl)
    pool := poolExclusive_of (fun g => .inr (by unfold State.bankOf; rw [hrec])) (fun c => .inr ⟨rfl, rfl⟩)
      fun c g _ hsome => by rw [hrec]; exact hsome
    lines := linesAgree_of rfl fun n => by rw [lineCondition_eq, lineCondition_eq, funext hrec]; rfl }

/-- An edit of a LIVE record that keeps its key, its bank and whether it counts as in match. -/
theorem keeps_putRecord {s : State} {h : Handle} {r r' : Record} (hl : s.Live h r) (hk : r'.key = r.key)
    (hb : r'.bank = r.bank) (hm : r'.state.inMatch = r.state.inMatch) : Keeps s (s.putRecord h r') where
  toKeepsTables := keepsTables_liveRecord hl hk hb id
  lines := linesAgree_of rfl (lineCondition_setRecord (by rw [record?_live hl]; exact congrArg some hm))

/-- An event on a LIVE record that keeps its key and its bank, after which the lines settle. -/
theorem keeps_settleRecord {s : State} {h : Handle} {r r' : Record} {mask : Byte} (hl : s.Live h r)
    (hk : r'.key = r.key) (hb : r'.bank = r.bank) (hm : InClass 0x3F mask) :
    Keeps s (s.settleLines (s.setRecord h ⟨.live r', s.records[h].pending ||| mask, s.records[h].enabled⟩)) :=
  keeps_settleLines (keepsTables_liveRecord hl hk hb fun hp => hp.or hm) fun _ => ⟨rfl, rfl⟩

theorem keeps_settleAbandon {s : State} {h : Handle} {r r' : Record} {mask : Byte} (hl : s.Live h r)
    (hk : r'.key = r.key) (hb : r'.bank = r.bank) (hm : InClass 0x3F mask) :
    Keeps s (s.settleLines
      ((s.setRecord h ⟨.live r', s.records[h].pending ||| mask, s.records[h].enabled⟩).abandonAttached h)) :=
  keeps_settleLines ((keepsTables_liveRecord hl hk hb fun hp => hp.or hm).trans
    (keeps_abandonAttached _ h).toKeepsTables) fun _ => ⟨rfl, rfl⟩

theorem unverifyMask_inClass (r : Record) : InClass 0x3F r.unverifyMask := by
  unfold Record.unverifyMask
  split <;> rfl

theorem onPaper_key (r : Record) (f : PaperFields → PaperFields) : (r.onPaper f).key = r.key := by
  unfold Record.onPaper
  split
  · next p hd => simp only [Record.key, Record.kind, KindData.kind, hd]
  · rfl

/-- A change of the paper fields leaves every other field. -/
theorem onPaper_keeps (r : Record) (f : PaperFields → PaperFields) :
    (r.onPaper f).bank = r.bank ∧ (r.onPaper f).state = r.state := by
  unfold Record.onPaper
  split <;> exact ⟨rfl, rfl⟩

/-! ## The drain (R21, R22) -/

theorem record?_endDrains (s : State) (h : Handle) : s.endDrains.record? h = s.record? h := by
  rw [record?_eq, record?_eq, endDrains_record]
  cases hc : s.records[h].content with
  | free => rfl
  | live r => rfl
  | retiring k b =>
    simp only
    split
    · rfl
    · unfold RecordSlot.live? RecordSlot.retired
      rw [hc]

theorem keeps_endDrains (s : State) : Keeps s s.endDrains where
  procedure := endDrains_procedure s
  admin h := by unfold State.ClientZeroAdmin; rw [endDrains_clients]; exact h
  banks h := by unfold State.BanksCanonical; rw [endDrains_banks]; exact h
  checks := pendingIsChecking_of (endDrains_response s) fun c => by rw [endDrains_contexts]
  details h := by unfold State.DetailsMatch; rw [endDrains_global]; exact h
  keys := keysUnique_of fun g => by
    rw [endDrains_record]
    split
    · split
      · exact .inr rfl
      · exact .inl rfl
    · exact .inr rfl
    · exact .inr rfl
  pool := poolExclusive_of (fun g => .inr (by unfold State.bankOf; rw [record?_endDrains]))
    (fun c => .inr (by rw [endDrains_contexts]; exact ⟨rfl, rfl⟩))
    (fun c g _ hsome => by rw [record?_endDrains]; exact hsome)
  lines := linesAgree_of (endDrains_slots s) fun n => by
    rw [lineCondition_eq, lineCondition_eq, endDrains_slots, funext (record?_endDrains s)]
  sets h := by
    rw [setsInClass_iff] at h ⊢
    intro src
    cases src with
    | record g =>
      have hg := h (.record g)
      simp only [State.pendingOf, State.enabledOf, endDrains_record] at hg ⊢
      split
      · split
        · exact hg
        · exact ⟨hg.1.or (show InClass 0x3F indRetired from rfl), hg.2⟩
      · exact hg
      · exact hg
    | global => simpa only [State.pendingOf, State.enabledOf, endDrains_global] using h .global
    | slot n => simpa only [State.pendingOf, State.enabledOf, endDrains_slots] using h (.slot n)
    | lane n => simpa only [State.pendingOf, State.enabledOf, endDrains_lanes] using h (.lane n)
    | channel n => simpa only [State.pendingOf, State.enabledOf, endDrains_channels] using h (.channel n)

/-! ## Staging contexts (R33) -/

/-- The staging context of a record is one that belongs to it. -/
theorem stagingOf_spec {s : State} {h : Handle} {c : ContextId} {x : Context} (hs : s.stagingOf h = some (c, x)) :
    x = s.contexts[c] ∧ s.contexts[c].record? = some h := by
  unfold State.stagingOf at hs
  obtain ⟨d, hd, e⟩ := Option.map_eq_some_iff.mp hs
  obtain ⟨rfl, rfl⟩ := Prod.mk.inj e
  have hrec := List.find?_some hd
  exact ⟨rfl, of_decide_eq_true hrec⟩

/-- A context changes neither whether it is CHECKING nor, unless it becomes IDLE, what it holds. -/
theorem keeps_setContext {s : State} {c : ContextId} {x : Context} (hcheck : x.isChecking = s.contexts[c].isChecking)
    (hx : x.bank? = none ∧ x.record? = none ∨ x.bank? = s.contexts[c].bank? ∧ x.record? = s.contexts[c].record?) :
    Keeps s (s.setContext c x) where
  procedure := rfl
  admin := id
  keys := id
  banks := id
  sets := id
  details := id
  lines := id
  checks := pendingIsChecking_of rfl fun d => by
    rw [setContext_contexts, getElem_set_fin]
    split
    · next e => exact e ▸ hcheck
    · rfl
  pool := poolExclusive_of (fun _ => .inr rfl)
    (fun d => by
      rw [setContext_contexts, getElem_set_fin]
      split
      · next e => exact e ▸ hx
      · exact .inr ⟨rfl, rfl⟩)
    fun _ _ _ => id

theorem keeps_setBank {s : State} (b : BankId) {ns : Nodes} (h : s.BanksCanonical → ns.wf = true) :
    Keeps s (s.setBank b ns) where
  procedure := rfl
  admin := id
  keys := id
  sets := id
  details := id
  lines := id
  checks := id
  pool := id
  banks hs a := by
    rw [setBank_banks, getElem_set_fin]
    split
    · exact h hs
    · exact hs a

/-- R38, R39, R17: a load ends and its context is IDLE. -/
theorem keeps_endLoad {s : State} {c : ContextId} (h : s.contexts[c].isChecking = false) :
    Keeps s (s.setContext c .idle) :=
  keeps_setContext h.symm (.inl ⟨rfl, rfl⟩)

/-- A bank that is free has no owner (R27). -/
theorem bankFree_unowned {s : State} {b : BankId} (h : s.bankFree b = true) :
    (∀ g, s.bankOf g ≠ some b) ∧ (∀ c : ContextId, s.contexts[c].bank? ≠ some b) ∧
      s.laneHolds b = false := by
  unfold State.bankFree at h
  rw [Bool.and_eq_true, Bool.and_eq_true, Option.isNone_iff_eq_none, Option.isNone_iff_eq_none, Bool.not_eq_true'] at h
  obtain ⟨⟨hr, hc⟩, hl⟩ := h
  exact ⟨fun g => of_decide_eq_false (find?_finRange_none.mp hr g),
    fun c => of_decide_eq_false (find?_finRange_none.mp hc c), hl⟩

/-- R35: an IDLE context takes a LIVE record without a context and a bank without an owner. -/
theorem keeps_beginLoad {s : State} {c : ContextId} {h : Handle} {b : BankId} {r : Record} (coverage : Coverage)
    (timer : Nat) (hc : s.contexts[c] = .idle) (hl : s.Live h r) (hfree : s.bankFree b = true)
    (hstaged : ∀ d : ContextId, s.contexts[d].record? ≠ some h) :
    Keeps s (s.setContext c (.loading h b coverage timer)) where
  procedure := rfl
  admin := id
  keys := id
  banks := id
  sets := id
  details := id
  lines := id
  checks := pendingIsChecking_of rfl fun d => by
    rw [setContext_contexts, getElem_set_fin]
    split
    · next e => rw [← e, hc]; rfl
    · rfl
  pool := by
    obtain ⟨hrec, hctx, -⟩ := bankFree_unowned hfree
    rintro ⟨h1, h2, h3, h4, h5⟩
    have at_c (d : ContextId) : (s.setContext c (.loading h b coverage timer)).contexts[d] =
        if c = d then .loading h b coverage timer else s.contexts[d] := getElem_set_fin ..
    refine ⟨h1, fun g d e q => ?_, fun d d' e q => ?_, fun d d' e q => ?_, fun d g e => ?_⟩
    · rw [at_c] at q
      split at q
      · exact hrec g q
      · exact h2 g d e q
    · rw [at_c] at e q
      rw [at_c] at q
      split at q <;> split at q
      · next e1 e2 => rw [← e1, ← e2]
      · exact absurd q.symm (hctx d')
      · exact absurd q (hctx d)
      · next e1 _ => rw [if_neg e1] at e; exact h3 d d' e q
    · rw [at_c] at e q
      rw [at_c] at q
      split at q <;> split at q
      · next e1 e2 => rw [← e1, ← e2]
      · exact absurd q.symm (hstaged d')
      · exact absurd q (hstaged d)
      · next e1 _ => rw [if_neg e1] at e; exact h4 d d' e q
    · rw [at_c] at e
      split at e
      · cases e; exact record?_isSome hl
      · exact h5 d g e

/-! ## The commit check (R41 to R46) -/

/-- R41: a LOADING context becomes the one CHECKING context as the response becomes PENDING. -/
theorem keeps_startCheck {s : State} {c : ContextId} {h : Handle} {b : BankId} (timer : Nat) (q : ClientId)
    (strict : Bool) (hr : s.response ≠ .pending) (hbank : s.contexts[c].bank? = some b)
    (hrec : s.contexts[c].record? = some h) :
    Keeps s { s.setContext c (.checking h b timer q strict) with response := .pending } where
  procedure := rfl
  admin := id
  keys := id
  banks := id
  sets := id
  details := id
  lines := id
  checks hs := by
    have only (d : ContextId) (e : ((s.setContext c (.checking h b timer q strict)).contexts[d]).isChecking = true) :
        c = d := by
      rw [setContext_contexts, getElem_set_fin] at e
      by_contra hne
      rw [if_neg hne, notChecking_of_free hs hr d] at e
      cases e
    refine ⟨iff_of_true rfl ⟨c, ?_⟩, fun d d' e e' => (only d e).symm.trans (only d' e')⟩
    change ((s.contexts.set c (.checking h b timer q strict))[c]).isChecking = true
    rw [getElem_set_fin, if_pos rfl]
    rfl
  pool := poolExclusive_of (fun _ => .inr rfl)
    (fun d => by
      rw [show State.contexts _ = s.contexts.set c (.checking h b timer q strict) from rfl, getElem_set_fin]
      split
      · next e => exact .inr (e ▸ ⟨hbank.symm, hrec.symm⟩)
      · exact .inr ⟨rfl, rfl⟩)
    fun _ _ _ => id

/-- R46: the check of the CHECKING context ends and the response is READY. -/
theorem pendingIsChecking_endCheck {s t : State} {c : ContextId} {x : Context} (hc : s.contexts[c].isChecking = true)
    (hx : x.isChecking = false) (hctx : t.contexts = s.contexts.set c x) (hr : t.response ≠ .pending)
    (h : s.PendingIsChecking) : t.PendingIsChecking :=
  pendingIsChecking_free hr fun d => by
    rw [hctx, getElem_set_fin]
    split
    · exact hx
    · next hne => exact Bool.eq_false_iff.mpr fun e => hne (h.2 c d hc e)

/-- R43: a failed check. -/
theorem keeps_failCheck {s : State} {c : ContextId} {h : Handle} {b : BankId} (hc : s.contexts[c].isChecking = true)
    (hbank : s.contexts[c].bank? = some b) (hrec : s.contexts[c].record? = some h) (kind : Byte) (o : OutcomeCode)
    (g : Nat) (causes : List Cause) (result : List Byte) :
    Keeps s ((failCommit c h b s).respond kind o g causes result) where
  procedure := rfl
  admin := id
  keys := id
  banks := id
  sets := id
  details := id
  lines := id
  checks := pendingIsChecking_endCheck hc rfl rfl nofun
  pool := poolExclusive_of (fun _ => .inr rfl)
    (fun d => by
      rw [show State.contexts _ = s.contexts.set c (.loading h b _ _) from rfl, getElem_set_fin]
      split
      · next e => exact .inr (e ▸ ⟨hbank.symm, hrec.symm⟩)
      · exact .inr ⟨rfl, rfl⟩)
    fun _ _ _ => id

/-- R28: a bank without an owner becomes a record's. -/
theorem poolExclusive_giveBank {s t : State} {h : Handle} {b : BankId} (hrec : ∀ g, s.bankOf g ≠ some b)
    (hctx : ∀ c : ContextId, s.contexts[c].bank? ≠ some b) (hc : t.contexts = s.contexts)
    (hb : ∀ g, t.bankOf g = if h = g then some b else s.bankOf g)
    (hl : ∀ g, (s.record? g).isSome → (t.record? g).isSome) (hp : s.PoolExclusive) : t.PoolExclusive := by
  obtain ⟨h1, h2, h3, h4, h5⟩ := hp
  unfold State.PoolExclusive
  rw [hc]
  refine ⟨fun g g' e q => ?_, fun g d e q => ?_, h3, h4, fun d g e => hl g (h5 d g e)⟩
  · rw [hb, hb] at q
    rw [hb] at e
    split at q <;> split at q
    · next e1 e2 => rw [← e1, ← e2]
    · exact absurd q.symm (hrec g')
    · exact absurd q (hrec g)
    · next e1 _ => rw [if_neg e1] at e; exact h1 g g' e q
  · rw [hb] at e q
    split at q
    · exact hctx d q.symm
    · next e1 => rw [if_neg e1] at e; exact h2 g d e q

/-- R28, R44: the bank passes from the context, which becomes IDLE, to the record. -/
theorem poolExclusive_takeBank {s t : State} {c : ContextId} {h : Handle} {b : BankId}
    (hbank : s.contexts[c].bank? = some b) (hctx : t.contexts = s.contexts.set c .idle)
    (hb : ∀ g, t.bankOf g = if h = g then some b else s.bankOf g)
    (hl : ∀ g, (s.record? g).isSome → (t.record? g).isSome) (hp : s.PoolExclusive) : t.PoolExclusive := by
  have at_c (d : ContextId) : (s.setContext c .idle).contexts[d] = if c = d then .idle else s.contexts[d] :=
    getElem_set_fin ..
  have hmid : (s.setContext c .idle).PoolExclusive := by
    refine poolExclusive_of (s := s) (fun _ => .inr rfl) (fun d => ?_) (fun _ _ _ => id) hp
    rw [at_c]
    split
    · exact .inl ⟨rfl, rfl⟩
    · exact .inr ⟨rfl, rfl⟩
  obtain ⟨-, h2, h3, -, -⟩ := hp
  refine poolExclusive_giveBank (s := s.setContext c .idle) (fun g e => h2 g c (e ▸ rfl) (e.trans hbank.symm))
    (fun d e => ?_) hctx hb hl hmid
  rw [at_c] at e
  split at e
  · cases e
  · next hne => exact hne (h3 c d (hbank ▸ rfl) (hbank.trans e.symm))

theorem committed_key (r : Record) (b : BankId) : (r.committed b).key = r.key := onPaper_key r.unverify _

/-- R44, R45: a passing check. -/
theorem keeps_passCheck {s : State} {c : ContextId} {h : Handle} {b : BankId} {r : Record}
    (hc : s.contexts[c].isChecking = true) (hbank : s.contexts[c].bank? = some b) (hl : s.Live h r) (kind : Byte)
    (o : OutcomeCode) (g : Nat) (causes : List Cause) (result : List Byte) :
    Keeps s ((passCommit c h r b s).respond kind o g causes result) := by
  set x : RecordSlot :=
    ⟨.live (r.committed b), s.records[h].pending ||| r.unverifyMask, s.records[h].enabled⟩ with hx
  have hrecord (g : Handle) : (passCommit c h r b s).record? g = if h = g then some (r.committed b) else s.record? g :=
    (congrArg RecordSlot.live? (congrArg (·[g]) (settleLines_records ..))).trans
      (record?_setRecord (s.setContext c .idle) h g x)
  have hlive (g : Handle) (e : (s.record? g).isSome = true) : ((passCommit c h r b s).record? g).isSome = true := by
    rw [hrecord]
    split
    · rfl
    · exact e
  have hpool (hp : s.PoolExclusive) : (passCommit c h r b s).PoolExclusive := by
    refine poolExclusive_takeBank (h := h) hbank (settleLines_contexts ..) (fun g => ?_) hlive hp
    unfold State.bankOf
    rw [hrecord]
    split <;> rfl
  have hkeys : s.KeysUnique → (passCommit c h r b s).KeysUnique := keysUnique_of fun g => by
    have : (passCommit c h r b s).records[g] = if h = g then x else s.records[g] :=
      (congrArg (·[g]) (settleLines_records ..)).trans (getElem_set_fin ..)
    rw [this]
    split
    · next e => subst e; rw [key?_live hl]; exact .inr (congrArg some (committed_key r b))
    · exact .inr rfl
  have hsets (hs : s.SetsInClass) : ((s.setContext c .idle).setRecord h x).SetsInClass :=
    sets_setRecord (s := s.setContext c .idle) (fun hp => hp.or (unverifyMask_inClass r)) id hs
  have habandon := keeps_abandonAttached ((s.setContext c .idle).setRecord h x) h
  have htables (hs : s.SetsInClass) : (passCommit c h r b s).SetsInClass :=
    (keepsTables_slots (s := ((s.setContext c .idle).setRecord h x).abandonAttached h) fun n => by
      rw [show (Vector.ofFn _)[n] = _ from settleLines_slot s _ n]
      exact ⟨edge_inClass _ _ _, by rw [(edge_keeps _ _ _).2.2.2.2]; exact id⟩).sets (habandon.sets (hsets hs))
  exact {
    procedure := settleLines_procedure s _
    admin := id
    banks := id
    details := id
    keys := hkeys
    sets := htables
    pool := hpool
    checks := pendingIsChecking_endCheck hc rfl (settleLines_contexts s _) nofun
    lines := fun hlines n => by
      change lineAgrees (passCommit c h r b s).slots[n].override (passCommit c h r b s).slots[n].line
        ((passCommit c h r b s).lineCondition n) = true
      unfold passCommit
      rw [lineCondition_settle, settleLines_slot]
      exact lineAgrees_edge (hlines n) }

end Sys2Proof.Machine
end

section
/-! What a block's verdict on a taken request keeps of the eight invariants, block by block. -/
namespace Sys2Proof.Machine

/-! ## Sound verdicts -/

/-- A verdict on the state `s` whose state keeps every invariant; a refusal has none, and a RESTART begins a
procedure. -/
def Verdict.Sound (s : State) : Verdict → Prop
  | .refused _ _ => True
  | .done _ t => Keeps s t ∧ t.response = s.response
  | .adjusted _ t => Keeps s t ∧ t.response = s.response
  | .committed t => Keeps s { t with response := .pending }
  | .restarted t => t = beginRestart s

theorem refuseIf_sound {s : State} {go : Verdict} (g : Nat) (checks : List (Cause × Bool))
    (h : failing checks = [] → go.Sound s) : (refuseIf g checks go).Sound s := by
  rw [refuseIf_eq]
  split
  · next e => exact h e
  · trivial

theorem failing_cons_nil {c : Cause} {b : Bool} {rest : List (Cause × Bool)} (h : failing ((c, b) :: rest) = []) :
    b = false ∧ failing rest = [] := by
  cases b with
  | false => exact ⟨rfl, h⟩
  | true => cases h

theorem accept_sound {s t : State} (clamped : Bool) (result : List Byte) (hk : Keeps s t)
    (hr : t.response = s.response) : (accept clamped result t).Sound s := by
  cases clamped <;> exact ⟨hk, hr⟩

theorem onRecord_sound {s : State} {b : Byte} {allowed : Record → Bool} {go : Handle → Record → Verdict}
    (h : ∀ k r, s.Live k r → (go k r).Sound s) : (onRecord s b allowed go).Sound s := by
  unfold onRecord
  split
  · trivial
  · next k r ht => exact refuseIf_sound _ _ fun _ => h k r (target_some ht).1

theorem onUnit_sound {s : State} {n : Nat} {q : Caller} {b : Byte} {go : Fin n → Verdict}
    (h : ∀ k, numberOf n b = some k → (go k).Sound s) : (onUnit n q b go).Sound s := by
  unfold onUnit
  split
  · trivial
  · next k hk => exact refuseIf_sound _ _ fun _ => h k hk

/-- A reading request answers on the state as it stands. -/
theorem done_sound (s : State) (result : List Byte) : (Verdict.done result s).Sound s := ⟨Keeps.refl s, rfl⟩

theorem readUnit_sound {n : Nat} (layout : Fin n → List Byte) (s : State) (body : List Byte) :
    (readUnit n layout s body).Sound s := by
  unfold readUnit
  split
  · split
    · trivial
    · exact done_sound s _
  · trivial

/-! ## The Record Table -/

/-- R11: a free slot takes a new record, UNVERIFIED and without a bank. -/
theorem keeps_create {s : State} {h : Handle} {k : Key} (hfree : s.records[h].content = .free)
    (hkey : s.keyHeld k = false) (owner : ClientId) (change lookup : Option Byte) :
    Keeps s (s.setRecord h ⟨.live (newRecord k owner change lookup), 0, 0⟩) where
  procedure := rfl
  admin := id
  banks := id
  checks := id
  details := id
  sets := sets_setRecord (fun _ => inClass_zero _) fun _ => inClass_zero _
  keys hs g g' hsome heq := by
    have hnew (j : Handle) : s.records[j].key? ≠ some k := fun e => by
      rw [keyHeld_iff.mpr ⟨j, e⟩] at hkey; cases hkey
    have hat (j : Handle) : (s.setRecord h ⟨.live (newRecord k owner change lookup), 0, 0⟩).records[j].key? =
        if h = j then some k else s.records[j].key? := by
      rw [setRecord_records, getElem_set_fin]
      split
      · obtain ⟨kind, media, variant⟩ := k; cases kind <;> rfl
      · rfl
    rw [hat, hat] at heq
    rw [hat] at hsome
    split at heq <;> split at heq
    · next e e' => rw [← e, ← e']
    · exact absurd heq.symm (hnew g')
    · exact absurd heq (hnew g)
    · next e _ => rw [if_neg e] at hsome; exact hs g g' hsome heq
  pool := poolExclusive_of
    (fun g => by
      rw [bankOf_setRecord]
      split
      · exact .inl rfl
      · exact .inr rfl)
    (fun c => .inr ⟨rfl, rfl⟩)
    (fun c g _ hsome => by
      rw [record?_setRecord]
      split
      · rfl
      · exact hsome)
  lines h' n := by
    have hcond : (s.setRecord h ⟨.live (newRecord k owner change lookup), 0, 0⟩).lineCondition n =
        s.lineCondition n := by
      rw [lineCondition_eq, lineCondition_eq, setRecord_slots]
      cases s.slots[n].paper with
      | none => rfl
      | some g =>
        rw [Option.bind_some, Option.bind_some, record?_setRecord]
        split
        · next e =>
          have hnone : s.record? g = none := by rw [record?_eq, ← e]; unfold RecordSlot.live?; rw [hfree]
          rw [hnone]; rfl
        · rfl
    rw [hcond]
    exact h' n

theorem lowestFree_spec {s : State} {h : Handle} (hf : s.lowestFree = some h) : s.records[h].content = .free := by
  have hfree := List.find?_some hf
  exact of_decide_eq_true hfree

theorem createKey_sound (q : Caller) (k : Key) (sets : Option Byte × Option Byte) (s : State) :
    (createKey q k sets s).Sound s := by
  unfold createKey
  split
  · next h hfree hheld => exact ⟨keeps_create (lowestFree_spec hfree) hheld _ _ _, rfl⟩
  · trivial

theorem createRecord_sound (q : Caller) (body : List Byte) (s : State) : (createRecord q body s).Sound s := by
  unfold createRecord
  split
  · split
    · trivial
    · split
      · trivial
      · exact refuseIf_sound _ _ fun _ => createKey_sound ..
  · trivial

theorem findRecord_sound (q : Caller) (body : List Byte) (s : State) : (findRecord q body s).Sound s := by
  unfold findRecord
  split
  · split
    · trivial
    · refine refuseIf_sound _ _ fun _ => ?_
      split
      · trivial
      · exact refuseIf_sound _ _ fun _ => done_sound s _
  · trivial

theorem readRecord_sound (q : Caller) (body : List Byte) (s : State) : (readRecord q body s).Sound s := by
  unfold readRecord
  split
  · exact onRecord_sound fun _ _ _ => done_sound s _
  · trivial

theorem setAccess_sound (q : Caller) (body : List Byte) (s : State) : (setAccess q body s).Sound s := by
  unfold setAccess
  split
  · exact onRecord_sound fun h r hl => ⟨keeps_putRecord hl rfl rfl rfl, rfl⟩
  · trivial

/-- R16, R17: the load of a record that is not CHECKING ends, and no context is left to it. -/
theorem keeps_dropStaging {s : State} {h : Handle} (hcheck : s.isChecking h = false) : Keeps s (s.dropStaging h) := by
  unfold State.dropStaging
  split
  · exact Keeps.refl s
  · next c x hs =>
    obtain ⟨rfl, -⟩ := stagingOf_spec hs
    refine keeps_endLoad ?_
    unfold State.isChecking at hcheck
    rw [hs] at hcheck
    cases hx : s.contexts[c] with
    | idle => rfl
    | loading h b k t => rfl
    | checking h b t c f => rw [hx] at hcheck; cases hcheck

theorem stagingOf_eq_none_iff {s : State} {h : Handle} :
    s.stagingOf h = none ↔ ∀ c : ContextId, s.contexts[c].record? ≠ some h := by
  refine ⟨fun hn c => ?_, stagingOf_none⟩
  unfold State.stagingOf at hn
  exact of_decide_eq_false (find?_finRange_none.mp (Option.map_eq_none_iff.mp hn) c)

theorem dropStaging_unstaged {s : State} {h : Handle} (hp : s.PoolExclusive) (c : ContextId) :
    (s.dropStaging h).contexts[c].record? ≠ some h := by
  unfold State.dropStaging
  split
  · next hs => exact stagingOf_eq_none_iff.mp hs c
  · next d x hs =>
    obtain ⟨-, hd⟩ := stagingOf_spec hs
    rw [setContext_contexts, getElem_set_fin]
    split
    · nofun
    · next hne => exact fun e => hne (hp.2.2.2.1 d c (hd ▸ rfl) (hd.trans e.symm))

theorem dropStaging_keeps (s : State) (h : Handle) :
    (s.dropStaging h).records = s.records ∧ (s.dropStaging h).response = s.response ∧
      (s.dropStaging h).slots = s.slots := by
  unfold State.dropStaging
  split <;> exact ⟨rfl, rfl, rfl⟩

/-- R16: a record that is not in use is no slot's active paper. -/
theorem paper_of_not_inUse {s : State} {h : Handle} (hu : s.inUse h = false) (n : SlotId) :
    s.slots[n].paper ≠ some h := fun e => by
  unfold State.inUse at hu
  rw [Bool.or_eq_false_iff] at hu
  have hany : (s.slots.any fun p => p.paper = some h) = true := Vector.any_eq_true.mpr ⟨n.val, n.isLt, decide_eq_true e⟩
  rw [hany] at hu
  cases hu.1

/-- R17, R18: a record that is neither in use nor CHECKING leaves its slot, to `x`. -/
theorem keeps_retire {s : State} {h : Handle} {x : RecordSlot} (hcheck : s.isChecking h = false)
    (hu : s.inUse h = false) (hx : x.live? = none) (hk : x.key? = none ∨ x.key? = s.records[h].key?)
    (hp : InClass 0x3F s.records[h].pending → InClass 0x3F x.pending) (he : x.enabled = s.records[h].enabled) :
    Keeps s ((s.dropStaging h).setRecord h x) := by
  obtain ⟨hrec, -, hslots⟩ := dropStaging_keeps s h
  have hdrop := keeps_dropStaging hcheck
  have hcond (n : SlotId) : ((s.dropStaging h).setRecord h x).lineCondition n = s.lineCondition n := by
    rw [lineCondition_eq, lineCondition_eq, setRecord_slots, hslots]
    cases hpaper : s.slots[n].paper with
    | none => rfl
    | some g =>
      rw [Option.bind_some, Option.bind_some, record?_setRecord,
        if_neg fun e : h = g => paper_of_not_inUse hu n (e ▸ hpaper), record?_eq, record?_eq, hrec]
  exact {
    procedure := hdrop.procedure
    admin := hdrop.admin
    banks := hdrop.banks
    checks := hdrop.checks
    details := hdrop.details
    sets := fun hs => sets_setRecord (by rw [hrec]; exact hp) (by rw [hrec, he]; exact id) (hdrop.sets hs)
    keys := fun hs => keysUnique_setRecord (by rw [hrec]; exact hk) (hdrop.keys hs)
    pool := fun hs => poolExclusive_freeRecord hx (dropStaging_unstaged hs) (hdrop.pool hs)
    lines := linesAgree_of hslots hcond }

theorem retire_sound {s : State} {h : Handle} {r : Record} (hl : s.Live h r) (hcheck : s.isChecking h = false)
    (hu : s.inUse h = false) : (retire h r s).Sound s := by
  obtain ⟨-, hresponse, -⟩ := dropStaging_keeps s h
  unfold retire
  split
  · exact ⟨keeps_retire hcheck hu rfl (.inr (key?_live hl).symm) id rfl, hresponse⟩
  · exact ⟨keeps_retire hcheck hu rfl (.inl rfl) (fun hp => hp.or rfl) rfl, hresponse⟩

theorem retireRecord_sound (q : Caller) (body : List Byte) (s : State) : (retireRecord q body s).Sound s := by
  unfold retireRecord
  split
  · refine onRecord_sound fun h r hl => refuseIf_sound _ _ fun hpass => ?_
    obtain ⟨hcheck, hpass⟩ := failing_cons_nil hpass
    obtain ⟨hu, -⟩ := failing_cons_nil hpass
    exact retire_sound hl hcheck hu
  · trivial

/-! ## The Grid Pool -/

theorem lowestIdleContext_spec {s : State} {c : ContextId} (h : s.lowestIdleContext = some c) :
    s.contexts[c] = .idle := by
  have hidle := List.find?_some h
  exact of_decide_eq_true hidle

theorem lowestFreeBank_spec {s : State} {b : BankId} (h : s.lowestFreeBank = some b) : s.bankFree b = true :=
  List.find?_some h

theorem beginGrid_sound (q : Caller) (body : List Byte) (s : State) : (beginGrid q body s).Sound s := by
  unfold beginGrid
  split
  · refine onRecord_sound fun h r hl => ?_
    split
    · next b c hb hc hs =>
      have hstaged := stagingOf_eq_none_iff.mp (Option.isSome_eq_false_iff.mp hs |> Option.isNone_iff_eq_none.mp)
      exact ⟨(keeps_setBank b fun _ => rfl).trans
        (keeps_beginLoad (s := s.setBank b []) 0 _ (lowestIdleContext_spec hc) hl (lowestFreeBank_spec hb) hstaged),
        rfl⟩
    · trivial
  · trivial

/-- R37: a chunk within the 729 nodes. -/
theorem chunk_sound {s : State} (h : Handle) {first : Nat} {values : List Triple}
    (hroom : first + values.length ≤ 729) : (chunk h first values s).Sound s := by
  unfold chunk
  split
  · next c _ b coverage timer hs =>
    obtain ⟨hx, hrec⟩ := stagingOf_spec hs
    refine ⟨(keeps_setBank b fun hw => wf_writeRun values _ _ hroom (hw b)).trans (keeps_setContext ?_ (.inr ?_)), rfl⟩
    · rw [setBank_contexts, ← hx]; rfl
    · rw [setBank_contexts, ← hx] at *
      exact ⟨rfl, hrec.symm⟩
  · trivial
  · trivial
  · trivial

theorem gridChunk_sound (q : Caller) (body : List Byte) (s : State) : (gridChunk q body s).Sound s := by
  unfold gridChunk
  split
  · next hb n1 n0 count rest =>
    split_ifs with hcount hlen hroom
    · trivial
    · trivial
    · trivial
    · split
      · trivial
      · refine refuseIf_sound _ _ fun _ => refuseIf_sound _ _ fun _ => chunk_sound _ ?_
        rw [length_triplesOf _ count.toNat rest (not_not.mp hlen)]
        have hpos : count.toNat ≠ 0 := fun e => hcount (.inl (BitVec.eq_of_toNat_eq e))
        omega
  · trivial

theorem commitGrid_sound {s : State} (hr : s.response ≠ .pending) (q : Caller) (body : List Byte) :
    (commitGrid q body s).Sound s := by
  unfold commitGrid
  split
  · refine onRecord_sound fun h r hl => ?_
    unfold commit
    split
    · next c _ b coverage timer hs =>
      obtain ⟨hx, hrec⟩ := stagingOf_spec hs
      split
      · exact keeps_startCheck _ _ _ hr (hx ▸ rfl) hrec
      · trivial
    · trivial
    · trivial
    · trivial
  · trivial

theorem abandonGrid_sound (q : Caller) (body : List Byte) (s : State) : (abandonGrid q body s).Sound s := by
  unfold abandonGrid
  split
  · refine onRecord_sound fun h r hl => ?_
    unfold abandonLoad
    split
    · next c _ b coverage timer hs =>
      obtain ⟨hx, -⟩ := stagingOf_spec hs
      exact ⟨keeps_endLoad (hx ▸ rfl), rfl⟩
    · trivial
    · trivial
    · trivial
  · trivial

theorem readPool_sound (q : Caller) (body : List Byte) (s : State) : (readPool q body s).Sound s := by
  unfold readPool
  split
  · exact done_sound s _
  · trivial

theorem readNode_sound (q : Caller) (body : List Byte) (s : State) : (readNode q body s).Sound s := by
  unfold readNode
  split
  · refine refuseIf_sound _ _ fun _ => onRecord_sound fun _ _ _ => ?_
    split
    · trivial
    · exact done_sound s _
  · trivial

/-! ## Colour Arithmetic -/

theorem withInput_sound {s : State} {q : Caller} {clamp : Triple → Triple} {t : Triple} {go : Triple → Byte → Verdict}
    (h : ∀ u flags, (go u flags).Sound s) : (withInput q clamp t go).Sound s :=
  refuseIf_sound _ _ fun _ => h _ _

theorem accept_read_sound (s : State) (clamped : Bool) (result : List Byte) : (accept clamped result s).Sound s :=
  accept_sound clamped result (Keeps.refl s) rfl

theorem translateForward_sound (q : Caller) (hb : Byte) (input : Triple) (s : State) :
    (translateForward q hb input s).Sound s := by
  refine withInput_sound fun u flags => refuseIf_sound _ _ fun _ => onRecord_sound fun _ _ _ => ?_
  split
  · trivial
  · exact accept_read_sound ..

theorem translateRender_sound (q : Caller) (hb : Byte) (input : Triple) (s : State) :
    (translateRender q hb input s).Sound s := by
  refine withInput_sound fun u flags => refuseIf_sound _ _ fun _ => onRecord_sound fun _ _ _ => ?_
  split
  · trivial
  · exact accept_read_sound ..

theorem translateProof_sound (q : Caller) (pb db : Byte) (input : Triple) (s : State) :
    (translateProof q pb db input s).Sound s := by
  refine withInput_sound fun u flags => refuseIf_sound _ _ fun _ => ?_
  split
  · refine refuseIf_sound _ _ fun _ => ?_
    split
    · exact accept_read_sound ..
    · trivial
  · trivial

theorem translate_sound (q : Caller) (body : List Byte) (s : State) : (translate q body s).Sound s := by
  unfold translate
  split
  · trivial
  · split_ifs
    · split
      · exact translateForward_sound ..
      · trivial
    · split
      · exact translateRender_sound ..
      · trivial
    · split
      · exact translateProof_sound ..
      · trivial
    · trivial

theorem setTrim_sound (q : Caller) (body : List Byte) (s : State) : (setTrim q body s).Sound s := by
  unfold setTrim
  split
  · refine refuseIf_sound _ _ fun _ => refuseIf_sound _ _ fun _ => onRecord_sound fun h r hl => ?_
    refine accept_sound _ _ ((keeps_putRecord hl (onPaper_key r _) (onPaper_keeps r _).1 ?_).trans
      (keeps_abandonAttached _ h)) rfl
    rw [(onPaper_keeps r _).2]
  · trivial

/-! ## Video lanes -/

theorem requestBinding_sound (l : LaneId) (binding : Option Binding) (s : State) :
    (requestBinding l binding s).Sound s := by
  unfold requestBinding
  split
  · exact ⟨keeps_setLane id id, rfl⟩
  · exact ⟨keeps_setLane (fun h => h.or rfl) id, rfl⟩

theorem bindRequest_sound (q : Caller) (lb db : Byte) (pb : Option Byte) (s : State) :
    (bindRequest q lb db pb s).Sound s := by
  refine refuseIf_sound _ _ fun _ => refuseIf_sound _ _ fun _ => ?_
  split
  · exact refuseIf_sound _ _ fun _ => requestBinding_sound ..
  · exact refuseIf_sound _ _ fun _ => requestBinding_sound ..
  · trivial

theorem bindLane_sound (q : Caller) (body : List Byte) (s : State) : (bindLane q body s).Sound s := by
  unfold bindLane
  split
  · exact bindRequest_sound ..
  · exact bindRequest_sound ..
  · trivial

theorem unbindLane_sound (q : Caller) (body : List Byte) (s : State) : (unbindLane q body s).Sound s := by
  unfold unbindLane
  split
  · exact onUnit_sound fun l _ => requestBinding_sound ..
  · trivial

theorem setLanePolicy_sound (q : Caller) (body : List Byte) (s : State) : (setLanePolicy q body s).Sound s := by
  unfold setLanePolicy
  split
  · split
    · trivial
    · exact onUnit_sound fun l _ => ⟨keeps_setLane id id, rfl⟩
  · trivial

theorem readAnyUnit_sound (q : Caller) (body : List Byte) (s : State) : (readAnyUnit q body s).Sound s := by
  unfold readAnyUnit
  split
  · split_ifs
    · exact readUnit_sound ..
    · exact readUnit_sound ..
    · exact readUnit_sound ..
    · trivial
  · trivial

/-! ## Instruments and verification -/

theorem setHeadCorrection_sound (q : Caller) (body : List Byte) (s : State) :
    (setHeadCorrection q body s).Sound s := by
  unfold setHeadCorrection
  split
  · refine refuseIf_sound _ _ fun _ => onUnit_sound fun c _ => accept_sound _ _ (keeps_setChannel ?_ ?_) rfl
    · exact fun h => abandonOpen_inClass _ _ h
    · rw [abandonOpen_enabled]; exact id
  · trivial

theorem unverify_key (r : Record) : r.unverify.key = r.key := rfl

theorem withPatches_key (r : Record) (ps : List Triple) (white : Option Nat) : (r.withPatches ps white).key = r.key :=
  onPaper_key r.unverify _

theorem withPatches_bank (r : Record) (ps : List Triple) (white : Option Nat) :
    (r.withPatches ps white).bank = r.bank := (onPaper_keeps r.unverify _).1

theorem setPatches_sound (q : Caller) (body : List Byte) (s : State) : (setPatches q body s).Sound s := by
  unfold setPatches
  split
  · split_ifs
    · trivial
    · trivial
    · unfold patchesOn
      split
      · exact refuseIf_sound _ _ fun _ => trivial
      · next h r ht =>
        refine refuseIf_sound _ _ fun _ => refuseIf_sound _ _ fun _ => refuseIf_sound _ _ fun _ =>
          ⟨keeps_settleAbandon (target_some ht).1 (withPatches_key ..) (withPatches_bank ..)
            (unverifyMask_inClass r), ?_⟩
        exact settleLines_response ..
  · trivial

theorem nominalOn_sound (q : Caller) (hb : Byte) (white : Option Triple) (s : State) :
    (nominalOn q hb white s).Sound s := by
  refine refuseIf_sound _ _ fun _ => refuseIf_sound _ _ fun _ => onRecord_sound fun h r hl =>
    ⟨keeps_putRecord hl (onPaper_key r _) (onPaper_keeps r _).1 ?_, rfl⟩
  rw [(onPaper_keeps r _).2]

theorem setNominalWhite_sound (q : Caller) (body : List Byte) (s : State) : (setNominalWhite q body s).Sound s := by
  unfold setNominalWhite
  split
  · exact nominalOn_sound ..
  · exact nominalOn_sound ..
  · trivial

theorem setMatchSettings_sound (q : Caller) (body : List Byte) (s : State) :
    (setMatchSettings q body s).Sound s := by
  unfold setMatchSettings
  split
  · split
    · trivial
    · refine refuseIf_sound _ _ fun _ => refuseIf_sound _ _ fun _ => onRecord_sound fun h r hl =>
        accept_sound _ _ (keeps_putRecord hl (onPaper_key r _) (onPaper_keeps r _).1 ?_) rfl
      exact congrArg MatchState.inMatch (onPaper_keeps r _).2
  · trivial

theorem reverify_sound (q : Caller) (body : List Byte) (s : State) : (reverify q body s).Sound s := by
  unfold reverify
  split
  · exact onRecord_sound fun h r hl =>
      ⟨keeps_settleRecord hl (unverify_key r) rfl (unverifyMask_inClass r), settleLines_response ..⟩
  · trivial

theorem clearHold_sound (q : Caller) (body : List Byte) (s : State) : (clearHold q body s).Sound s := by
  unfold clearHold
  split
  · exact onRecord_sound fun h r hl => ⟨keeps_putRecord hl rfl rfl rfl, rfl⟩
  · trivial

theorem readCounters_sound (q : Caller) (body : List Byte) (s : State) : (readCounters q body s).Sound s := by
  unfold readCounters
  split
  · refine onRecord_sound fun h r hl => ?_
    split
    · exact ⟨keeps_putRecord hl rfl rfl rfl, rfl⟩
    · exact done_sound s _
  · trivial

/-! ## Printer slots -/

theorem keeps_assignPaper (n : SlotId) (paper : Option Handle) (s : State) : Keeps s (assignPaper n paper s) := by
  have hslot : KeepsTables s (s.setSlot n { s.slots[n] with paper := paper }) := keepsTables_slots fun k => by
    rw [getElem_set_fin]
    split
    · next e => subst e; exact ⟨id, id⟩
    · exact ⟨id, id⟩
  refine keeps_settleLines (hslot.trans (keeps_abandonStrip _ _ _).toKeepsTables) fun k => ?_
  rw [abandonStrip_slots, setSlot_slots, getElem_set_fin]
  split
  · next e => subst e; exact ⟨rfl, rfl⟩
  · exact ⟨rfl, rfl⟩

theorem assigned_sound (n : SlotId) (paper : Option Handle) (s : State) : (assigned n paper s).Sound s :=
  ⟨keeps_assignPaper n paper s, settleLines_response ..⟩

theorem setSlotPaper_sound (q : Caller) (body : List Byte) (s : State) : (setSlotPaper q body s).Sound s := by
  unfold setSlotPaper
  split
  · exact onUnit_sound fun n _ => assigned_sound ..
  · refine refuseIf_sound _ _ fun _ => onUnit_sound fun n _ => ?_
    split
    · trivial
    · exact refuseIf_sound _ _ fun _ => assigned_sound ..
  · trivial

/-- R146: what SET_SLOT_LINE leaves in step with the condition. -/
theorem keeps_setLine (n : SlotId) (o : Override) (t1 t2 : Nat) (s : State) :
    Keeps s (s.setSlot n (s.slots[n].setLine o t1 t2 (s.lineCondition n))) := by
  unfold PrinterSlot.setLine
  refine keeps_setSlot (fun h => noteOutput_inClass _ _ ?_) ?_ ?_ fun hl => ?_
  · split
    · exact h
    · exact h
    · split <;> exact h
  · rw [(noteOutput_keeps _ _).2.2.2]
    split
    · exact id
    · exact id
    · split <;> exact id
  · rw [(noteOutput_keeps _ _).1]
    split
    · rfl
    · rfl
    · split <;> rfl
  · rw [(noteOutput_keeps _ _).2.1, (noteOutput_keeps _ _).2.2.1]
    split
    · rfl
    · rfl
    · split
      · exact hl
      · cases s.lineCondition n with
        | true => exact lineAgrees_rise (line := .off) t1
        | false => rfl

theorem setSlotLine_sound (q : Caller) (body : List Byte) (s : State) : (setSlotLine q body s).Sound s := by
  unfold setSlotLine
  split
  · split
    · trivial
    · exact refuseIf_sound _ _ fun _ => onUnit_sound fun n _ => accept_sound _ _ (keeps_setLine ..) rfl
  · trivial

/-! ## Indications -/

/-- R153, R157: a detail is emptied exactly when its indication is acknowledged. -/
theorem acknowledge_detail {w : Nat} {p q m : Byte} {d : BitVec w} (hm : q &&& m = 0 ∨ q &&& m = m)
    (hd : p &&& m ≠ 0 ↔ d ≠ 0) : p &&& ~~~q &&& m ≠ 0 ↔ (if p &&& q &&& m = 0 then d else 0) ≠ 0 := by
  rcases hm with out | within
  · have hkeep : ~~~q &&& m = m := by
      have hsplit : (q ||| ~~~q) &&& m = m := by rw [BitVec.or_not_self, BitVec.allOnes_and]
      rwa [BitVec.and_comm, BitVec.and_or_distrib_left, BitVec.and_comm m q, out, BitVec.and_comm m,
        show (0 : Byte) ||| (~~~q &&& m) = ~~~q &&& m from BitVec.zero_or] at hsplit
    rw [BitVec.and_assoc, hkeep, BitVec.and_assoc, out, show p &&& (0 : Byte) = 0 from BitVec.and_zero, if_pos rfl]
    exact hd
  · have hgone : ~~~q &&& m = 0 := by
      rw [← within, ← BitVec.and_assoc, BitVec.and_comm (~~~q), BitVec.and_not_self]
      exact BitVec.zero_and
    rw [BitVec.and_assoc, hgone, show p &&& (0 : Byte) = 0 from BitVec.and_zero, BitVec.and_assoc, within]
    refine iff_of_false (fun e => e rfl) fun e => ?_
    split at e
    · next hp => exact hd.mpr e hp
    · exact e rfl

theorem detailsMatch_acknowledge {s : State} (set : Byte) (h : s.DetailsMatch) :
    State.DetailsMatch { s with global := s.global.acknowledge set } :=
  ⟨acknowledge_detail (by revert set; decide) h.1, acknowledge_detail (by revert set; decide) h.2.1,
    acknowledge_detail (by revert set; decide) h.2.2⟩

theorem keeps_acknowledge (src : Source) (set : Byte) (s : State) : Keeps s (acknowledge src set s) := by
  cases src with
  | global => exact keeps_global (fun h => h.and _) id (detailsMatch_acknowledge set)
  | slot n => exact keeps_setSlot (fun h => h.and _) id rfl id
  | lane n => exact keeps_setLane (fun h => h.and _) id
  | channel n => exact keeps_setChannel (fun h => h.and _) id
  | record h => exact keeps_recordSets (fun h => h.and _) id

theorem acknowledge_response (src : Source) (set : Byte) (s : State) :
    (acknowledge src set s).response = s.response := by
  cases src <;> rfl

theorem sourceOf_global (number : Byte) :
    sourceOf 0 number = if number = 0 then .ok .global else .error .noSuchUnit := rfl

theorem sourceOf_slot (number : Byte) :
    sourceOf 1 number = (numberOf 4 number).elim (.error .noSuchUnit) fun n => .ok (.slot n) := by
  unfold sourceOf
  cases numberOf 4 number <;> rfl

theorem sourceOf_lane (number : Byte) :
    sourceOf 2 number = (numberOf 2 number).elim (.error .noSuchUnit) fun n => .ok (.lane n) := by
  unfold sourceOf
  cases numberOf 2 number <;> rfl

theorem sourceOf_channel (number : Byte) :
    sourceOf 3 number = (numberOf 6 number).elim (.error .noSuchUnit) fun n => .ok (.channel n) := by
  unfold sourceOf
  cases numberOf 6 number <;> rfl

theorem sourceOf_record (number : Byte) :
    sourceOf 4 number = (numberOf 48 number).elim (.error .noSuchRecord) fun h => .ok (.record h) := by
  unfold sourceOf
  cases numberOf 48 number <;> rfl

/-- The source of a number, or a cause, is of the class of the sources the number could name. -/
theorem members_of_elim {n : Nat} {o : Option (Fin n)} {form : Fin n → Source} {cause : Cause} {src : Source}
    {members : Byte} (hform : ∀ k, (form k).members = members)
    (h : o.elim (.error cause) (fun k => .ok (form k)) = (.ok src : Except Cause Source)) : src.members = members := by
  cases o with
  | none => cases h
  | some k => cases h; exact hform k

/-- R156: the class of a source's code. -/
theorem sourceOf_members {cls number : Byte} {members : Byte} {src : Source} (hm : classMembers cls = some members)
    (hs : sourceOf cls number = .ok src) : src.members = members := by
  unfold classMembers at hm
  split_ifs at hm with h0 h1 h23 h4 <;> obtain rfl := Option.some.inj hm
  · rw [h0, sourceOf_global] at hs
    split at hs <;> cases hs
    rfl
  · rw [h1, sourceOf_slot] at hs
    exact members_of_elim (fun _ => rfl) hs
  · rcases h23 with h2 | h3
    · rw [h2, sourceOf_lane] at hs
      exact members_of_elim (fun _ => rfl) hs
    · rw [h3, sourceOf_channel] at hs
      exact members_of_elim (fun _ => rfl) hs
  · rw [h4, sourceOf_record] at hs
    exact members_of_elim (fun _ => rfl) hs

theorem onSource_sound {s : State} {cls number set : Byte} {go : Source → Verdict}
    (h : ∀ src, InClass src.members set → (go src).Sound s) : (onSource cls number set go).Sound s := by
  unfold onSource
  split
  · trivial
  · next members hm =>
    refine refuseIf_sound _ _ fun hpass => ?_
    have hset : InClass members set := by
      simpa [InClass] using (failing_cons_nil hpass).1
    split
    · trivial
    · next src hs => exact h src (sourceOf_members hm hs ▸ hset)

theorem keeps_setEnabled (src : Source) {set : Byte} (h : InClass src.members set) (s : State) :
    Keeps s (s.setEnabled src set) := by
  cases src with
  | global => exact keeps_global id (fun _ => h) id
  | slot n => exact keeps_setSlot id (fun _ => h) rfl id
  | lane n => exact keeps_setLane id fun _ => h
  | channel n => exact keeps_setChannel id fun _ => h
  | record g => exact keeps_recordSets id fun _ => h

theorem setEnabled_response (src : Source) (set : Byte) (s : State) : (s.setEnabled src set).response = s.response := by
  cases src <;> rfl

theorem enableOn_sound {s : State} {src : Source} {go : Verdict} (q : Caller) (h : go.Sound s) :
    (enableOn q s src go).Sound s := by
  unfold enableOn
  split
  · split
    · exact refuseIf_sound _ _ fun _ => h
    · trivial
  all_goals exact refuseIf_sound _ _ fun _ => h

theorem indicationOperation_sound (q : Caller) (body : List Byte) (s : State) :
    (indicationOperation q body s).Sound s := by
  unfold indicationOperation
  split
  · split_ifs
    · exact onSource_sound fun src _ => refuseIf_sound _ _ fun _ =>
        ⟨keeps_acknowledge src _ s, acknowledge_response src _ s⟩
    · exact onSource_sound fun src hset =>
        enableOn_sound q ⟨keeps_setEnabled src hset s, setEnabled_response src _ s⟩
    · trivial
  · trivial

theorem readNotices_sound (q : Caller) (body : List Byte) (s : State) : (readNotices q body s).Sound s := by
  unfold readNotices
  split
  · exact done_sound s _
  · trivial

/-! ## Clients -/

/-- R176: client 0 stays an admin, since clearing its flag is refused. -/
theorem setClient_sound (q : Caller) (body : List Byte) (s : State) : (setClient q body s).Sound s := by
  unfold setClient
  split
  · next cb sb ab =>
    split
    · next strict admin _ _ =>
      refine refuseIf_sound _ _ fun hpass => onUnit_sound fun c hc => ⟨keeps_clients fun h => ?_, rfl⟩
      change ((s.clients.set c ⟨strict, admin⟩)[(0 : Fin 8)]).admin = true
      rw [getElem_set_fin]
      split
      · next e =>
        have hzero : cb = 0 := BitVec.eq_of_toNat_eq (by rw [numberOf_some hc, e]; rfl)
        have := (failing_cons_nil hpass).1
        simpa [hzero] using this
      · exact h
    · trivial
  · trivial

/-- R183: the tables are emptied while no check runs. -/
theorem keeps_cleared {s : State} (hr : s.response ≠ .pending) : Keeps s s.cleared where
  procedure := rfl
  admin := id
  banks := id
  details := id
  keys := keysUnique_of fun g => .inl (by
    rw [show s.cleared.records[g] = RecordSlot.blank from getElem_replicate_fin _ g]; rfl)
  checks _ := pendingIsChecking_free hr fun c => by
    rw [show s.cleared.contexts[c] = .idle from getElem_replicate_fin _ c]; rfl
  pool := poolExclusive_of
    (fun g => .inl (by
      unfold State.bankOf
      rw [record?_eq, show s.cleared.records[g] = RecordSlot.blank from getElem_replicate_fin _ g]; rfl))
    (fun c => .inl (by
      rw [show s.cleared.contexts[c] = .idle from getElem_replicate_fin _ c]; exact ⟨rfl, rfl⟩))
    (fun c g e => by
      rw [show s.cleared.contexts[c] = .idle from getElem_replicate_fin _ c] at e; cases e)
  sets h := by
    rw [setsInClass_iff] at h ⊢
    intro src
    cases src with
    | global => exact h .global
    | slot n =>
      simp only [State.pendingOf, State.enabledOf, State.cleared, getElem_map_fin]
      exact ⟨inClass_zero _, (h (.slot n)).2⟩
    | lane n =>
      simp only [State.pendingOf, State.enabledOf, State.cleared, getElem_map_fin]
      exact ⟨inClass_zero _, (h (.lane n)).2⟩
    | channel n =>
      simp only [State.pendingOf, State.enabledOf, State.cleared, getElem_map_fin]
      exact ⟨inClass_zero _, (h (.channel n)).2⟩
    | record n =>
      simp only [State.pendingOf, State.enabledOf, State.cleared, getElem_replicate_fin]
      exact ⟨inClass_zero _, inClass_zero _⟩
  lines _ n := by
    have hslot : s.cleared.slots[n] = s.slots[n].cleared := getElem_map_fin _ _ n
    rw [lineCondition_eq, hslot]
    change lineAgrees s.slots[n].override .off false = true
    cases s.slots[n].override <;> rfl

theorem clearTables_sound {s : State} (hr : s.response ≠ .pending) (q : Caller) (body : List Byte) :
    (clearTables q body s).Sound s := by
  unfold clearTables
  split
  · exact refuseIf_sound _ _ fun _ => ⟨keeps_cleared hr, rfl⟩
  · trivial

theorem restart_sound (q : Caller) (body : List Byte) (s : State) : (restart q body s).Sound s := by
  unfold restart
  split
  · exact refuseIf_sound _ _ fun _ => rfl
  · trivial

/-- Every block's verdict, on a state whose response is not PENDING. -/
theorem block_sound {kind : Byte} {run : Block} (hb : blockOf kind = some run) {s : State} (hr : s.response ≠ .pending)
    (q : Caller) (body : List Byte) : (run q body s).Sound s := by
  unfold blockOf at hb
  split at hb <;> cases hb
  · exact createRecord_sound ..
  · exact findRecord_sound ..
  · exact readRecord_sound ..
  · exact setAccess_sound ..
  · exact retireRecord_sound ..
  · exact beginGrid_sound ..
  · exact gridChunk_sound ..
  · exact commitGrid_sound hr ..
  · exact abandonGrid_sound ..
  · exact readPool_sound ..
  · exact readNode_sound ..
  · exact translate_sound ..
  · exact setTrim_sound ..
  · exact bindLane_sound ..
  · exact unbindLane_sound ..
  · exact setLanePolicy_sound ..
  · exact readAnyUnit_sound ..
  · exact setHeadCorrection_sound ..
  · exact setPatches_sound ..
  · exact setNominalWhite_sound ..
  · exact setMatchSettings_sound ..
  · exact reverify_sound ..
  · exact clearHold_sound ..
  · exact readCounters_sound ..
  · exact setSlotPaper_sound ..
  · exact setSlotLine_sound ..
  · exact readNotices_sound ..
  · exact indicationOperation_sound ..
  · exact setClient_sound ..
  · exact clearTables_sound hr ..
  · exact restart_sound ..

end Sys2Proof.Machine
end

section
/-! What a step can do, said once, and the eight invariants every step keeps. -/
namespace Sys2Proof.Machine

/-! ## Events of the Grid Pool and the lanes -/

theorem keeps_event {s t : State} (h : Keeps s t) : Keeps s (s.event t) := by
  unfold State.event
  split
  · exact Keeps.refl s
  · exact h

theorem runningCheck_spec {s : State} {c : ContextId} {h : Handle} {b : BankId} {q : ClientId} {strict : Bool}
    (hs : s.runningCheck = some (c, h, b, q, strict)) : ∃ timer, s.contexts[c] = .checking h b timer q strict := by
  obtain ⟨d, -, hd⟩ := List.exists_of_findSome?_eq_some hs
  cases hx : s.contexts[d] with
  | checking h b timer q strict => simp only [hx] at hd; cases hd; exact ⟨timer, hx⟩
  | idle => simp only [hx] at hd; cases hd
  | loading h b k t => simp only [hx] at hd; cases hd

theorem keeps_completeCheck {s : State} {c : ContextId} {h : Handle} {b : BankId} {timer : Nat} {q : ClientId}
    {strict : Bool} {r : Record} (hc : s.contexts[c] = .checking h b timer q strict) (hl : s.Live h r) :
    Keeps s (completeCheck c h b q strict r s) := by
  have hcheck : s.contexts[c].isChecking = true := by rw [hc]; rfl
  have hbank : s.contexts[c].bank? = some b := by rw [hc]; rfl
  have hrec : s.contexts[c].record? = some h := by rw [hc]; rfl
  unfold completeCheck
  split
  · exact keeps_passCheck hcheck hbank hl ..
  · exact (keeps_failCheck hcheck hbank hrec ..).trans (keeps_noteFault ..)

theorem keeps_checkCompletes (s : State) : Keeps s (checkCompletes s) := by
  refine keeps_event ?_
  split
  · exact Keeps.refl s
  · next hs =>
    obtain ⟨timer, hc⟩ := runningCheck_spec hs
    split
    · exact Keeps.refl s
    · next hr => exact keeps_completeCheck hc (live_of_record? hr)

/-- R39: STAGING_EXPIRED with its handle. -/
theorem keeps_noteExpiry (s : State) (h : Handle) :
    Keeps s { s with global := { s.global with
      pending := s.global.pending ||| indStagingExpired, expired := s.global.expired ||| handleBit h } } := by
  have hexpired : s.global.expired ||| handleBit h ≠ 0 := or_ne_zero (handleBit_ne_zero h)
  refine keeps_global (fun hp => InClass.or hp (show InClass 0x1F indStagingExpired from rfl)) id fun hd => ?_
  obtain ⟨hr, -, hf⟩ := hd
  have hpending : (s.global.pending ||| indStagingExpired) &&& 0x02 ≠ 0 := or_and_own (m := 0x02) (by decide)
  refine ⟨?_, iff_of_true hpending hexpired, ?_⟩
  · rwa [or_and_other rfl]
  · rwa [or_and_other rfl]

theorem keeps_stagingExpiry (c : ContextId) (s : State) : Keeps s (stagingExpiry c s) := by
  refine keeps_event ?_
  split
  · next hc =>
    exact (keeps_endLoad (c := c) (by rw [hc]; rfl)).trans (keeps_noteExpiry _ _)
  · exact Keeps.refl s
  · exact Keeps.refl s

theorem keeps_referenceChange (l : LaneId) (s : State) : Keeps s (referenceChange l s) := by
  refine keeps_event ?_
  split
  · exact Keeps.refl s
  · unfold takeChange
    refine Keeps.trans ?_ (keeps_endDrains _)
    exact keeps_setLane id id

theorem fallbackMask_inClass (before after : Mode) : InClass 0x07 (fallbackMask before after) := by
  unfold fallbackMask
  split <;> rfl

theorem stageOne_inClass {x : Lane} (h : InClass 0x07 x.pending) : InClass 0x07 (stageOne x).pending := by
  refine (h.or ?_).or ?_
  · split <;> rfl
  · split <;> rfl

theorem keeps_takeUp (l : LaneId) (s : State) : Keeps s (takeUp l s) := by
  unfold takeUp
  split
  · exact (keeps_setLane stageOne_inClass id).trans (keeps_abandonStrip ..)
  · exact keeps_setLane stageOne_inClass id

theorem keeps_frameStart (l : LaneId) (s : State) : Keeps s (frameStart l s) :=
  keeps_event ((keeps_takeUp l s).trans (keeps_setLane (fun h => h.or (fallbackMask_inClass ..)) id))

theorem lost_inClass {x : Lane} (h : InClass 0x07 x.pending) : InClass 0x07 x.lost.pending :=
  (h.or (show InClass 0x07 indSignalChanged from rfl)).or (fallbackMask_inClass ..)

theorem keeps_signalLoss (l : LaneId) (s : State) : Keeps s (signalLoss l s) := by
  refine keeps_event ?_
  split
  · exact Keeps.refl s
  · exact ((keeps_setLane lost_inClass id).trans (keeps_abandonStrip ..)).trans (keeps_endDrains _)

/-! ## Events of the instruments -/

theorem keeps_openStrip (c : ChannelId) (count : Nat) (s : State) : Keeps s (openStrip c count s) := by
  unfold openStrip
  split
  · exact keeps_setChannel (fun h => abandon_inClass _ _ (abandonOpen_inClass _ _ h))
      (by unfold Channel.abandon; rw [abandonOpen_enabled]; exact id)
  · exact keeps_setChannel (fun h => abandonOpen_inClass _ .overrun h) (by rw [abandonOpen_enabled]; exact id)

theorem addReading_sets (ch : Channel) (index : Nat) (lab : Triple) (good : Bool) :
    (InClass 0x07 ch.pending → InClass 0x07 (addReading ch index lab good).pending) ∧
      (addReading ch index lab good).enabled = ch.enabled := by
  unfold addReading
  split
  · exact ⟨abandon_inClass ch _, rfl⟩
  · split
    · exact ⟨id, rfl⟩
    · exact ⟨abandon_inClass ch _, rfl⟩

theorem keeps_hunt (s : State) : Keeps s s.hunt := keeps_receiver s _

theorem keeps_takeReading (c : ChannelId) (index : Byte) (L a b : BitVec 16) (quality : Byte) (s : State) :
    Keeps s (takeReading c index L a b quality s) :=
  (keeps_hunt s).trans (keeps_setChannel (addReading_sets ..).1 (by rw [(addReading_sets ..).2]; exact id))

/-- A record's key, access and bank, which no stage of an evaluation changes. -/
def Record.identity (r : Record) : Kind × Nat × Nat × Option BankId := (r.kind, r.media, r.variant, r.bank)

theorem setMatch_identity (r : Record) (m : MatchState) : (r.setMatch m).identity = r.identity := by
  unfold Record.setMatch
  split <;> rfl

theorem stageCounters_identity (pass : Bool) (r : Record) : (stageCounters pass r).identity = r.identity := by
  unfold stageCounters
  split <;> rfl

theorem stageHold_identity (pass : Bool) (js : List Judged) (r : Record) :
    (stageHold pass js r).1.identity = r.identity := by
  unfold stageHold
  split <;> rfl

theorem judgeWindow_identity (total : Nat) (r : Record) : (judgeWindow total r).1.identity = r.identity := by
  unfold judgeWindow
  split
  · split
    · exact setMatch_identity r .lost
    · rfl
  · rfl

theorem stageWindow_identity (failures : Nat) (r : Record) : (stageWindow failures r).1.identity = r.identity := by
  unfold stageWindow
  split
  · rfl
  · split
    · exact judgeWindow_identity ..
    · rfl

theorem climb_identity (r : Record) : (climb r).identity = r.identity := by
  unfold climb
  split
  · exact setMatch_identity ..
  · rfl

theorem stageMatch_identity (pass : Bool) (r : Record) : (stageMatch pass r).identity = r.identity := by
  unfold stageMatch
  split
  · exact climb_identity r
  · rfl
  · rfl
  · split
    · rfl
    · exact setMatch_identity ..
  · exact setMatch_identity ..
  · split
    · exact setMatch_identity ..
    · rfl
  · split
    · exact climb_identity r
    · rfl
  · rfl

/-- The kind of a record is that of its data. -/
theorem identity_withData {r : Record} {d : KindData} (h : d.kind = r.data.kind) :
    Record.identity { r with data := d } = r.identity := by
  simp only [Record.identity, Record.kind, h]

/-- R129: the white candidate a reading leaves. -/
def Reading.candidate (w : Reading) : Option Triple := if w.good then some w.lab else none

/-- R129: the record whose measured white the reading confirms. -/
def Record.withWhite (r : Record) (f : PaperFields) (w : Reading) : Record :=
  { r with data := .paper { f with measuredWhite := some w.lab, whiteCandidate := w.candidate } }

/-- R129, R130: the three outcomes of stage 6. -/
theorem whiteStep_eq (f : PaperFields) (w : Reading) (r : Record) :
    whiteStep f w r =
      if confirmsWhite f w then
        if wrongMedia f w.lab then
          (if r.settings.pinned then r.withWhite f w else (r.withWhite f w).setMatch .lost, 0x14)
        else (r.withWhite f w, 0x10)
      else ({ r with data := .paper { f with whiteCandidate := w.candidate } }, 0) := rfl

theorem whiteStep_identity {f : PaperFields} (w : Reading) {r : Record} (hd : r.data = .paper f) :
    (whiteStep f w r).1.identity = r.identity := by
  have hdata (g : PaperFields) : Record.identity { r with data := .paper g } = r.identity :=
    identity_withData (by rw [hd]; rfl)
  rw [whiteStep_eq]
  split_ifs
  · exact hdata _
  · exact (setMatch_identity ..).trans (hdata _)
  · exact hdata _
  · exact hdata _

theorem stageWhite_identity (readings : List Reading) (r : Record) :
    (stageWhite readings r).1.identity = r.identity := by
  unfold stageWhite
  split
  · rfl
  · next f hd =>
    split
    · rfl
    · exact whiteStep_identity _ hd

theorem stageTrim_identity (pass : Bool) (js : List Judged) (r : Record) :
    (stageTrim pass js r).identity = r.identity := by
  unfold stageTrim
  split
  · rfl
  · next f hd =>
    split
    · exact identity_withData (by rw [hd]; rfl)
    · rfl

theorem evaluation_identity (ns : Nodes) (readings : List Reading) (r : Record) :
    (evaluation ns readings r).1.identity = r.identity := by
  rw [evaluation_stages]
  exact (stageTrim_identity ..).trans <| (stageWhite_identity ..).trans <| (stageMatch_identity ..).trans <|
    (stageWindow_identity ..).trans <| (stageHold_identity ..).trans (stageCounters_identity ..)

theorem evaluation_key (ns : Nodes) (readings : List Reading) (r : Record) :
    (evaluation ns readings r).1.key = r.key ∧ (evaluation ns readings r).1.bank = r.bank := by
  have h := evaluation_identity ns readings r
  simp only [Record.identity, Prod.mk.injEq] at h
  obtain ⟨hk, hm, hv, hb⟩ := h
  exact ⟨by simp only [Record.key, hk, hm, hv], hb⟩

theorem stageHold_mask (pass : Bool) (js : List Judged) (r : Record) : InClass 0x3F (stageHold pass js r).2 := by
  unfold stageHold
  split
  · exact inClass_zero _
  · exact (show InClass 0x3F indHoldCaptured from rfl)

theorem stageWindow_mask (failures : Nat) (r : Record) : InClass 0x3F (stageWindow failures r).2 := by
  unfold stageWindow judgeWindow
  split_ifs
  · exact inClass_zero _
  · exact (show InClass 0x3F indExcessive from rfl)
  · exact (show InClass 0x3F indExcessive from rfl)
  · exact inClass_zero _
  · exact inClass_zero _

theorem stageWhite_mask (readings : List Reading) (r : Record) : InClass 0x3F (stageWhite readings r).2 := by
  unfold stageWhite
  split
  · exact inClass_zero _
  · split
    · exact inClass_zero _
    · rw [whiteStep_eq]
      split_ifs
      · exact (show InClass 0x3F 0x14 from rfl)
      · exact (show InClass 0x3F 0x14 from rfl)
      · exact (show InClass 0x3F 0x10 from rfl)
      · exact inClass_zero _

/-- R151, R132: the indications of an evaluation are a record's. -/
theorem evaluation_mask (ns : Nodes) (readings : List Reading) (r : Record) :
    InClass 0x3F (evaluation ns readings r).2 := by
  rw [evaluation_stages]
  refine (((stageHold_mask ..).or (stageWindow_mask ..)).or (stageWhite_mask ..)).or ?_
  split <;> rfl

theorem attachedRecord_live {s : State} {c : ChannelId} {h : Handle} {r : Record}
    (ha : s.attachedRecord c = some (h, r)) : s.Live h r := by
  unfold State.attachedRecord at ha
  obtain ⟨g, -, hg⟩ := Option.bind_eq_some_iff.mp ha
  obtain ⟨q, hq, e⟩ := Option.map_eq_some_iff.mp hg
  cases e
  exact live_of_record? hq

theorem keeps_closed {s : State} (c : ChannelId) {ind : Byte} (hi : InClass 0x07 ind) :
    Keeps s (s.setChannel c (s.channels[c].closed ind)) := keeps_setChannel (fun h => h.or hi) id

theorem keeps_handOver (c : ChannelId) (st : Strip) (s : State) : Keeps s (handOver c st s) := by
  unfold handOver
  split
  · have hclosed : Keeps s (s.setChannel c (s.channels[c].closed indStripVoid)) := keeps_closed c rfl
    split
    · exact hclosed
    · next h r ha => exact hclosed.trans (keeps_putRecord (attachedRecord_live ha) rfl rfl rfl)
  · have hclosed : Keeps s (s.setChannel c (s.channels[c].closed indStripEvaluated)) := keeps_closed c rfl
    split
    · exact hclosed
    · next h r ha =>
      exact hclosed.trans
        (keeps_settleRecord (attachedRecord_live ha) (evaluation_key ..).1 (evaluation_key ..).2 (evaluation_mask ..))

theorem keeps_closeStrip (c : ChannelId) (s : State) : Keeps s (closeStrip c s) := by
  unfold closeStrip
  split
  · exact keeps_setChannel (abandon_inClass _ _) id
  · split
    · exact keeps_setChannel (abandon_inClass _ _) id
    · exact keeps_handOver ..

theorem keeps_takeStripOpen (c : ChannelId) (count : Byte) (s : State) : Keeps s (takeStripOpen c count s) :=
  (keeps_hunt s).trans (keeps_openStrip ..)

theorem keeps_takeStripClose (c : ChannelId) (s : State) : Keeps s (takeStripClose c s) :=
  (keeps_hunt s).trans (keeps_closeStrip ..)

theorem keeps_takeMessage (message : List Byte) (s : State) : Keeps s (takeMessage message s) := by
  unfold takeMessage
  split
  · split
    · exact keeps_hunt s
    · exact keeps_takeStripClose ..
  · split
    · exact keeps_hunt s
    · exact keeps_takeStripOpen ..
  · split
    · exact keeps_hunt s
    · exact keeps_takeReading ..
  · exact keeps_hunt s

theorem keeps_collect (message : List Byte) (s : State) : Keeps s (collect message s) := by
  unfold collect
  split
  · split
    · exact keeps_discardMessage ..
    · exact keeps_receiver ..
  · split
    · exact keeps_discardMessage ..
    · split_ifs
      · exact keeps_receiver ..
      · exact keeps_takeMessage ..
      · exact keeps_discardMessage ..
  · exact keeps_receiver ..

theorem keeps_receiveByte (b : Byte) (s : State) : Keeps s (receiveByte b s) := by
  unfold receiveByte
  split
  · split
    · exact keeps_receiver ..
    · exact Keeps.refl s
  · exact keeps_collect ..

theorem keeps_gapExpiry (s : State) : Keeps s (gapExpiry s) := by
  refine keeps_event ?_
  split
  · exact Keeps.refl s
  · exact keeps_discardMessage ..

theorem keeps_inactivityExpiry (c : ChannelId) (s : State) : Keeps s (inactivityExpiry c s) :=
  keeps_event (keeps_abandonStrip ..)

/-- A machine in step that moves to a state in step, its output noted. -/
theorem keeps_moveLine {s : State} {n : SlotId} {line : LineState}
    (hl : lineAgrees s.slots[n].override s.slots[n].line (s.lineCondition n) = true →
      lineAgrees s.slots[n].override line (s.lineCondition n) = true) :
    Keeps s (s.setSlot n (s.slots[n].noteOutput { s.slots[n] with line := line })) := by
  obtain ⟨hpaper, hoverride, hline, henabled⟩ := noteOutput_keeps s.slots[n] { s.slots[n] with line := line }
  refine keeps_setSlot (fun h => noteOutput_inClass _ _ h) (by rw [henabled]; exact id) hpaper ?_
  rw [hoverride, hline]
  exact hl

/-- R141: the expiry of the line timer keeps the machine in step with the condition. -/
theorem keeps_lineTimerExpiry (n : SlotId) (s : State) : Keeps s (lineTimerExpiry n s) := by
  refine keeps_event ?_
  have hsame : Keeps s (s.setSlot n s.slots[n]) := keeps_setSlot id id rfl id
  unfold PrinterSlot.expire
  split
  · exact hsame
  · exact hsame
  · next ho =>
    split
    · exact hsame
    · exact hsame
    · next hline => exact keeps_moveLine (by rw [hline, ho]; exact id)
    · next hline => exact keeps_moveLine (by rw [hline, ho]; exact id)

/-! ## What a command can do -/

/-- What a command or a millisecond does: an event outside a procedure; SDO or the conditions alone; a procedure begins,
goes on or ends. -/
inductive Passes (s : State) : State → Prop
  | event {t : State} (free : s.procedure = none) (keeps : Keeps s t) : Passes s t
  | drive (sdo : List Byte) : Passes s { s with sdo := sdo }
  | note (conditions : Conditions) : Passes s { s with conditions := conditions }
  | begins (p : Procedure) (conditions : Conditions) (sdo : List Byte) :
    Passes s { startProcedure p s with conditions := conditions, sdo := sdo }
  | goesOn {p : Procedure} (running : s.procedure = some p) (flags : Byte) (q : Procedure) (conditions : Conditions) :
    Passes s { s with
      global := { s.global with resetReasons := s.global.resetReasons ||| flags }
      procedure := some q, conditions := conditions }
  | ends {p : Procedure} (running : s.procedure = some p) : Passes s (endProcedure s)

theorem passes_refl (s : State) : Passes s s := .drive s.sdo

/-- An event that a procedure holds off. -/
theorem passes_of_event {s t : State} (h : Keeps s (s.event t)) : Passes s (s.event t) := by
  by_cases hp : s.procedure = none
  · exact .event hp h
  · rw [event_held hp]
    exact passes_refl s

theorem passes_complete {s : State} (free : s.procedure = none) (hr : s.response ≠ .pending) (kind : Byte) (q : Caller)
    (n : Nat) {v : Verdict} (hv : v.Sound (s.driveFill n)) : Passes s (complete kind q (s.driveFill n) v) := by
  have hdrive := keeps_driveFill s n
  unfold complete
  split
  · exact .event free ((hdrive.trans (keeps_respond (s := s.driveFill n) hr ..)).trans (keeps_noteFault ..))
  · exact .event free ((hdrive.trans hv.1).trans (keeps_respond (by rw [hv.2]; exact hr) ..))
  · exact .event free ((hdrive.trans hv.1).trans (keeps_respond (by rw [hv.2]; exact hr) ..))
  · exact .event free (hdrive.trans hv)
  · rw [show _ = beginRestart (s.driveFill n) from hv]
    exact .begins restartProcedure s.conditions (fill n)

theorem not_pending_of_busy {s : State} (h : s.busy = false) : s.response ≠ .pending := fun e => by
  unfold State.busy at h
  rw [e] at h
  cases h

/-- A request command, whatever state it meets. -/
theorem passes_takeRequest {kind : Byte} {run : Block} (hb : blockOf kind = some run) (client : Byte)
    (body : List Byte) (s : State) : Passes s (takeRequest kind run client body s) := by
  unfold takeRequest
  split_ifs with hp hlen hbusy
  · exact .drive []
  · exact .event (Option.not_isSome_iff_eq_none.mp hp) ((keeps_driveFill ..).trans (keeps_discardFrame ..))
  · exact .event (Option.not_isSome_iff_eq_none.mp hp) ((keeps_driveFill ..).trans (keeps_discardFrame ..))
  · have free := Option.not_isSome_iff_eq_none.mp hp
    have hr := not_pending_of_busy (Bool.eq_false_iff.mpr hbusy)
    unfold judgeClient
    split
    · exact .event free ((keeps_driveFill ..).trans (keeps_respond (s := s.driveFill _) hr ..))
    · exact passes_complete free hr kind _ _ (block_sound hb (s := s.driveFill _) hr _ _)

theorem passes_takeUnknown (kind client : Byte) (body : List Byte) (s : State) :
    Passes s (takeUnknown kind client body s) := by
  unfold takeUnknown
  split_ifs with hp hbusy
  · exact .drive []
  · exact .event (Option.not_isSome_iff_eq_none.mp hp) ((keeps_driveFill ..).trans (keeps_discardFrame ..))
  · have free := Option.not_isSome_iff_eq_none.mp hp
    have hr := not_pending_of_busy (Bool.eq_false_iff.mpr hbusy)
    split
    · exact .event free ((keeps_driveFill ..).trans (keeps_respond (s := s.driveFill _) hr ..))
    · exact passes_complete free hr kind _ _ trivial

theorem passes_takeFrame (kind client : Byte) (body : List Byte) (s : State) :
    Passes s (takeFrame kind client body s) := by
  unfold takeFrame
  split
  · next hb => exact passes_takeRequest hb ..
  · exact passes_takeUnknown ..

theorem passes_fetchFrame (after : List Byte) (s : State) : Passes s (fetchFrame after s) := by
  unfold fetchFrame
  split
  · exact .drive []
  · next hp =>
    have free := Option.not_isSome_iff_eq_none.mp hp
    split
    · exact .event free ((keeps_driveFill ..).trans (keeps_discardFrame ..))
    · split
      · exact .event free ((keeps_driveFill ..).trans (keeps_discardFrame ..))
      · exact .drive _

theorem passes_hostFrame (f : HostFrame) (s : State) : Passes s (hostFrame f s) := by
  unfold hostFrame
  split
  · exact .drive _
  · split
    · exact .drive []
    · next hp =>
      have free := Option.not_isSome_iff_eq_none.mp hp
      unfold judgeFrame
      split
      · exact .drive []
      · split_ifs
        · unfold requestFrame
          split
          · exact .event free ((keeps_driveFill ..).trans (keeps_discardFrame ..))
          · split
            · exact passes_takeFrame ..
            · exact passes_refl s
        · exact passes_fetchFrame ..
        · exact .event free ((keeps_driveFill ..).trans (keeps_discardFrame ..))

/-! ## The Supervisor -/

theorem passes_onset (c : ResetCondition) (s : State) : Passes s (onset c s) := by
  unfold onset onsetOn
  split
  · exact .begins _ (s.conditions.begin c) []
  · next p hp =>
    split_ifs
    · exact .begins _ (s.conditions.begin c) []
    · exact Passes.goesOn (s := s) hp (sourceOfCondition c).flag { p with phase := .condition } (s.conditions.begin c)
    · exact .note (s.conditions.begin c)

/-- A procedure that goes on with its reset reasons as they are. -/
theorem passes_phase {s : State} {p : Procedure} (hp : s.procedure = some p) (q : Procedure) (c : Conditions) :
    Passes s { s with procedure := some q, conditions := c } := by
  have h := Passes.goesOn hp 0 q c
  rwa [show s.global.resetReasons ||| (0 : Byte) = s.global.resetReasons from BitVec.or_zero] at h

theorem passes_conditionEnd (c : ResetCondition) (s : State) : Passes s (conditionEnd c s) := by
  unfold conditionEnd
  split
  · unfold settlePhase
    split
    · exact .note _
    · next p hp =>
      split
      · exact .note _
      · split
        · exact .note _
        · exact passes_phase (s := s) hp { p with phase := .hold (holdMs p.priority) } (s.conditions.finish c)
  · exact passes_refl s

theorem passes_holdExpiry (s : State) : Passes s (holdExpiry s) := by
  unfold holdExpiry
  split
  · exact passes_refl s
  · next p hp =>
    split
    · exact passes_refl s
    · split
      · exact .begins _ s.conditions []
      · exact .ends hp

/-- Every command. -/
theorem exec_passes (i : Instr) (s : State) : ∃ t, exec i s = .next t ∧ Passes s t := by
  cases hreq : requestOf i with
  | some request =>
    obtain ⟨kind, client, body⟩ := request
    obtain ⟨run, hb, hexec⟩ := exec_request hreq s
    exact ⟨_, hexec, passes_takeRequest hb client body s⟩
  | none =>
    cases i
    case requestFrameDiscard f => exact ⟨_, rfl, passes_hostFrame f s⟩
    case fetch after => exact ⟨_, rfl, passes_fetchFrame after s⟩
    case checkCompletes => exact ⟨_, rfl, passes_of_event (keeps_checkCompletes s)⟩
    case stagingExpiry c => exact ⟨_, rfl, passes_of_event (keeps_stagingExpiry c s)⟩
    case frameStart l => exact ⟨_, rfl, passes_of_event (keeps_frameStart l s)⟩
    case referenceChange l => exact ⟨_, rfl, passes_of_event (keeps_referenceChange l s)⟩
    case signalLoss l => exact ⟨_, rfl, passes_of_event (keeps_signalLoss l s)⟩
    case stripOpen c count => exact ⟨_, rfl, passes_of_event (keeps_event (keeps_takeStripOpen c count s))⟩
    case reading c index L a b quality =>
      exact ⟨_, rfl, passes_of_event (keeps_event (keeps_takeReading c index L a b quality s))⟩
    case stripClose c => exact ⟨_, rfl, passes_of_event (keeps_event (keeps_takeStripClose c s))⟩
    case inactivityExpiry c => exact ⟨_, rfl, passes_of_event (keeps_inactivityExpiry c s)⟩
    case messageDiscard cause => exact ⟨_, rfl, passes_of_event (keeps_event (keeps_discardMessage s _))⟩
    case gapTimerExpiry => exact ⟨_, rfl, passes_of_event (keeps_gapExpiry s)⟩
    case lineTimerExpiry n => exact ⟨_, rfl, passes_of_event (keeps_lineTimerExpiry n s)⟩
    case powerOnOnset => exact ⟨_, rfl, passes_onset .powerOn s⟩
    case supplyLowOnset => exact ⟨_, rfl, passes_onset .supplyLow s⟩
    case coreClockFailOnset => exact ⟨_, rfl, passes_onset .coreClockFail s⟩
    case pinOnset => exact ⟨_, rfl, passes_onset .pin s⟩
    case conditionEnd c => exact ⟨_, rfl, passes_conditionEnd c s⟩
    case holdTimerExpiry => exact ⟨_, rfl, passes_holdExpiry s⟩
    case receivedByte b => exact ⟨_, rfl, passes_of_event (keeps_event (keeps_receiveByte b s))⟩
    all_goals cases hreq

/-! ## A millisecond (log 2) -/

theorem count_context (x : Context) :
    x.count.isChecking = x.isChecking ∧ x.count.bank? = x.bank? ∧ x.count.record? = x.record? := by
  cases x <;> exact ⟨rfl, rfl, rfl⟩

theorem lineAgrees_count (o : Override) (line : LineState) (b : Bool) :
    lineAgrees o line.count b = lineAgrees o line b := by
  cases o <;> cases line <;> rfl

/-- Counting down changes no timer's owner, set or state. -/
theorem keeps_countDown (s : State) : Keeps s s.countDown where
  procedure := rfl
  admin := id
  keys := id
  banks := id
  details := id
  checks := pendingIsChecking_of rfl fun c => by
    rw [show s.countDown.contexts[c] = s.contexts[c].count from getElem_map_fin _ _ c]
    exact (count_context _).1
  pool := poolExclusive_of (fun _ => .inr rfl)
    (fun c => .inr (by
      rw [show s.countDown.contexts[c] = s.contexts[c].count from getElem_map_fin _ _ c]
      exact (count_context _).2))
    fun _ _ _ => id
  sets h := by
    rw [setsInClass_iff] at h ⊢
    intro src
    cases src with
    | global => exact h .global
    | record g => exact h (.record g)
    | slot n =>
      simp only [State.pendingOf, State.enabledOf, State.countDown, getElem_map_fin]
      exact h (.slot n)
    | lane n =>
      simp only [State.pendingOf, State.enabledOf, State.countDown, getElem_map_fin]
      exact h (.lane n)
    | channel n =>
      simp only [State.pendingOf, State.enabledOf, State.countDown, getElem_map_fin]
      exact h (.channel n)
  lines h n := by
    have hrec : s.countDown.record? = s.record? := rfl
    have hslot : s.countDown.slots[n] = { s.slots[n] with line := s.slots[n].line.count } := getElem_map_fin _ _ n
    rw [lineCondition_eq, hrec, hslot, lineAgrees_count, ← lineCondition_eq]
    exact h n

theorem keeps_foldl {α : Type} {f : State → α → State} (hf : ∀ s x, Keeps s (f s x)) :
    ∀ (xs : List α) (s : State), Keeps s (xs.foldl f s)
  | [], s => Keeps.refl s
  | x :: xs, s => (hf s x).trans (keeps_foldl hf xs (f s x))

theorem keeps_expireContext (s : State) (c : ContextId) : Keeps s (expireContext s c) := by
  unfold expireContext
  split
  · exact keeps_stagingExpiry c s
  · exact keeps_checkCompletes s
  · exact Keeps.refl s

theorem keeps_expireLane (s : State) (l : LaneId) : Keeps s (expireLane s l) := by
  unfold expireLane
  split
  · exact keeps_signalLoss l s
  · exact Keeps.refl s

theorem keeps_expireChannel (s : State) (c : ChannelId) : Keeps s (expireChannel s c) := by
  unfold expireChannel
  split
  · exact keeps_inactivityExpiry c s
  · exact Keeps.refl s

theorem keeps_expireSlot (s : State) (n : SlotId) : Keeps s (expireSlot s n) := by
  unfold expireSlot
  split
  · exact keeps_lineTimerExpiry n s
  · exact keeps_lineTimerExpiry n s
  · exact Keeps.refl s

theorem keeps_expireGap (s : State) : Keeps s (expireGap s) := by
  unfold expireGap
  split
  · exact keeps_gapExpiry s
  · exact Keeps.refl s

theorem keeps_runOut (s : State) : Keeps s s.runOut :=
  (keeps_foldl keeps_expireContext _ _).trans <| (keeps_foldl keeps_expireLane _ _).trans <|
    (keeps_foldl keeps_expireChannel _ _).trans <| (keeps_foldl keeps_expireSlot _ _).trans (keeps_expireGap _)

theorem passes_tick (s : State) : Passes s (tick s) := by
  unfold tick
  split
  · next p hp =>
    unfold holdTick
    split
    · exact passes_refl s
    · split
      · exact passes_holdExpiry s
      · exact passes_phase hp _ s.conditions
  · next hp => exact .event hp ((keeps_countDown s).trans (keeps_runOut _))

/-- What a step does: a command or a millisecond, on the state whose queue it has taken from. -/
theorem step_passes {s t : State} (h : step s = .next t) : ∃ queue, Passes { s with pending := queue } t := by
  unfold step at h
  split at h
  · cases h
    exact ⟨s.pending, passes_tick s⟩
  · next c rest _ =>
    obtain ⟨u, hexec, hpasses⟩ := exec_passes c { s with pending := rest }
    rw [hexec] at h
    cases h
    exact ⟨rest, hpasses⟩

/-! ## The blocks at their reset values -/

/-- Every block but the global source at its reset values. -/
structure State.Blank (t : State) : Prop where
  records : ∀ h : Handle, t.records[h] = RecordSlot.blank
  banks : ∀ b : BankId, t.banks[b] = []
  contexts : ∀ k : ContextId, t.contexts[k] = .idle
  lanes : ∀ l : LaneId, t.lanes[l] = Lane.blank
  channels : ∀ k : ChannelId, t.channels[k] = Channel.blank
  slots : ∀ n : SlotId, t.slots[n] = PrinterSlot.blank
  response : t.response = .empty
  clients : t.clients = clientsReset

theorem began_blank (p : Procedure) (c : Conditions) (sdo : List Byte) (s : State) :
    State.Blank { startProcedure p s with conditions := c, sdo := sdo } :=
  ⟨getElem_replicate_fin _, getElem_replicate_fin _, getElem_replicate_fin _, getElem_replicate_fin _,
    getElem_replicate_fin _, getElem_replicate_fin _, rfl, rfl⟩

section
variable {t : State} (h : t.Blank)
include h

theorem blank_admin : t.ClientZeroAdmin := by
  unfold State.ClientZeroAdmin
  rw [h.clients]
  rfl

theorem blank_keys : t.KeysUnique := by
  intro g g' e
  rw [h.records g] at e
  cases e

theorem blank_banks : t.BanksCanonical := by
  intro b
  rw [h.banks b]
  rfl

theorem blank_lines : t.LinesAgree := by
  intro n
  rw [lineCondition_eq, h.slots n]
  rfl

theorem blank_checks : t.PendingIsChecking :=
  pendingIsChecking_free (by rw [h.response]; nofun) fun k => by rw [h.contexts k]; rfl

theorem blank_sets (hp : InClass 0x1F t.global.pending) (he : InClass 0x1F t.global.enabled) : t.SetsInClass := by
  rw [setsInClass_iff]
  intro src
  have hzero : InClass src.members 0 := inClass_zero _
  cases src with
  | global => exact ⟨hp, he⟩
  | slot n => simp only [State.pendingOf, State.enabledOf, h.slots n]; exact ⟨hzero, hzero⟩
  | lane n => simp only [State.pendingOf, State.enabledOf, h.lanes n]; exact ⟨hzero, hzero⟩
  | channel n => simp only [State.pendingOf, State.enabledOf, h.channels n]; exact ⟨hzero, hzero⟩
  | record n => simp only [State.pendingOf, State.enabledOf, h.records n]; exact ⟨hzero, hzero⟩

theorem blank_record? (g : Handle) : t.record? g = none := by
  rw [record?_eq, h.records g]
  rfl

theorem blank_pool : t.PoolExclusive := by
  have hbank (g : Handle) : t.bankOf g = none := by
    unfold State.bankOf
    rw [blank_record? h g]
    rfl
  refine ⟨fun g g' e => ?_, fun g d e => ?_, fun d d' e => ?_, fun d d' e => ?_, fun d g e => ?_⟩
  · rw [hbank] at e; cases e
  · rw [hbank] at e; cases e
  · rw [h.contexts] at e; cases e
  · rw [h.contexts] at e; cases e
  · rw [h.contexts] at e; cases e

end

theorem flag_ne_zero (src : ResetSource) : src.flag ≠ 0 := by cases src <;> decide

theorem flags_ne_zero (p : Procedure) : p.flags ≠ 0 := fun e => flag_ne_zero p.source (BitVec.or_eq_zero_iff.mp e).1

/-! ## The invariants by what a step does -/

/-- An invariant that reads neither the queue, SDO, the conditions, the procedure nor the reset reasons is kept by every
step when events keep it and a procedure begins with it. -/
theorem step_keeps {P : State → Prop} (hqueue : ∀ s queue, P s → P { s with pending := queue })
    (hkeeps : ∀ s t, Keeps s t → P s → P t) (hdrive : ∀ s sdo, P s → P { s with sdo := sdo })
    (hnote : ∀ s c, P s → P { s with conditions := c })
    (hbegins : ∀ s p c sdo, P { startProcedure p s with conditions := c, sdo := sdo })
    (hgoesOn : ∀ (s : State) flags q c, P s → P { s with
      global := { s.global with resetReasons := s.global.resetReasons ||| flags }
      procedure := some q, conditions := c })
    (hends : ∀ s, P s → P (endProcedure s)) {s t : State} (h : P s) (hs : step s = .next t) : P t := by
  obtain ⟨queue, hpasses⟩ := step_passes hs
  have hq := hqueue s queue h
  cases hpasses with
  | event _ keeps => exact hkeeps _ _ keeps hq
  | drive sdo => exact hdrive _ sdo hq
  | note c => exact hnote _ c hq
  | begins p c sdo => exact hbegins _ p c sdo
  | goesOn _ flags q c => exact hgoesOn _ flags q c hq
  | ends _ => exact hends _ hq

theorem sets_goesOn {s : State} (flags : Byte) (q : Procedure) (c : Conditions) (h : s.SetsInClass) :
    State.SetsInClass { s with
      global := { s.global with resetReasons := s.global.resetReasons ||| flags }
      procedure := some q, conditions := c } := by
  rw [setsInClass_iff] at h ⊢
  intro src
  have hsrc := h src
  cases src <;> exact hsrc

theorem sets_ends {s : State} (h : s.SetsInClass) : (endProcedure s).SetsInClass := by
  rw [setsInClass_iff] at h ⊢
  intro src
  have hsrc := h src
  cases src with
  | global => exact hsrc.imp_left fun hp => hp.or (show InClass 0x1F indResetOccurred from rfl)
  | slot n => exact hsrc
  | lane n => exact hsrc
  | channel n => exact hsrc
  | record n => exact hsrc

/-! ## The details and the held blocks (R153, R167) -/

theorem heldAtReset_begins (s : State) (p : Procedure) (c : Conditions) (sdo : List Byte) :
    State.HeldAtReset { startProcedure p s with conditions := c, sdo := sdo } :=
  ⟨or_ne_zero (flags_ne_zero p), rfl⟩

theorem heldAtReset_goesOn {s : State} (flags : Byte) (q : Procedure) (c : Conditions) (h : s.HeldAtReset) :
    State.HeldAtReset { s with
      global := { s.global with resetReasons := s.global.resetReasons ||| flags }
      procedure := some q, conditions := c } := by
  obtain ⟨hreasons, hs⟩ := h
  refine ⟨fun e => hreasons (BitVec.or_eq_zero_iff.mp e).1, ?_⟩
  rw [hs]

/-- R161: the end of a procedure leaves RESET_OCCURRED pending with some reset reason. -/
theorem detailsMatch_ends {s : State} (h : s.HeldAtReset) : (endProcedure s).DetailsMatch := by
  obtain ⟨hreasons, hs⟩ := h
  have hpending : s.global.pending = 0 := congrArg (·.global.pending) hs
  have hexpired : s.global.expired = 0 := congrArg (·.global.expired) hs
  have hfault : s.global.faultSet = 0 := congrArg (·.global.faultSet) hs
  have hnone : (s.global.pending ||| indResetOccurred) &&& 0x02 = 0 ∧
      (s.global.pending ||| indResetOccurred) &&& 0x10 = 0 := by
    rw [hpending]
    exact ⟨rfl, rfl⟩
  exact ⟨iff_of_true (or_and_own (m := 0x01) (by decide)) hreasons,
    iff_of_false (fun e => e hnone.1) fun e => e hexpired, iff_of_false (fun e => e hnone.2) fun e => e hfault⟩

/-- Outside a procedure a state has the invariant by its details. -/
theorem detailsOrHeld_free {s : State} (h : s.procedure = none) : s.DetailsOrHeld ↔ s.DetailsMatch := by
  unfold State.DetailsOrHeld
  rw [if_pos h]

theorem detailsOrHeld_running {s : State} (h : s.procedure ≠ none) : s.DetailsOrHeld ↔ s.HeldAtReset := by
  unfold State.DetailsOrHeld
  rw [if_neg h]

/-- A change of what neither branch of the invariant holds fixed. -/
theorem detailsOrHeld_outside {s : State} (sdo : List Byte) (c : Conditions) (queue : List Instr)
    (h : s.DetailsOrHeld) :
    State.DetailsOrHeld { s with sdo := sdo, conditions := c, pending := queue } := by
  set t : State := { s with sdo := sdo, conditions := c, pending := queue } with ht
  by_cases hp : s.procedure = none
  · exact (detailsOrHeld_free (s := t) hp).mpr ((detailsOrHeld_free hp).mp h)
  · obtain ⟨hreasons, hs⟩ := (detailsOrHeld_running hp).mp h
    refine (detailsOrHeld_running (s := t) hp).mpr ⟨hreasons, ?_⟩
    rw [ht, hs]

theorem detailsOrHeld_passes {s t : State} (h : s.DetailsOrHeld) (hp : Passes s t) : t.DetailsOrHeld := by
  cases hp with
  | event free keeps =>
    exact (detailsOrHeld_free (keeps.procedure.trans free)).mpr (keeps.details ((detailsOrHeld_free free).mp h))
  | drive sdo => exact detailsOrHeld_outside sdo s.conditions s.pending h
  | note c => exact detailsOrHeld_outside s.sdo c s.pending h
  | begins p c sdo => exact (detailsOrHeld_running (Option.some_ne_none _)).mpr (heldAtReset_begins s p c sdo)
  | goesOn running flags q c =>
    exact (detailsOrHeld_running (Option.some_ne_none _)).mpr
      (heldAtReset_goesOn flags q c ((detailsOrHeld_running (by rw [running]; nofun)).mp h))
  | ends running =>
    exact (detailsOrHeld_free rfl).mpr
      (detailsMatch_ends ((detailsOrHeld_running (by rw [running]; nofun)).mp h))

end Sys2Proof.Machine

/-! ## The obligations -/

namespace Sys2Proof.Proofs
open Sys2Proof Sys2Proof.Machine

/-- Settles O53: an event keeps client 0's flag (SET_CLIENT refuses to clear it), and a procedure begins with it on. -/
theorem clientZeroStaysAdmin : Obligations.ClientZeroStaysAdmin := fun _ _ =>
  step_keeps (P := State.ClientZeroAdmin) (fun _ _ => id) (fun _ _ k => k.admin) (fun _ _ => id) (fun _ _ => id)
    (fun s p c sdo => blank_admin (began_blank p c sdo s)) (fun _ _ _ _ => id) (fun _ => id)

/-- Settles O54: a slot keeps its key, loses it, or takes one that no slot holds. -/
theorem recordKeysStayUnique : Obligations.RecordKeysStayUnique := fun _ _ =>
  step_keeps (P := State.KeysUnique) (fun _ _ => id) (fun _ _ k => k.keys) (fun _ _ => id) (fun _ _ => id)
    (fun s p c sdo => blank_keys (began_blank p c sdo s)) (fun _ _ _ _ => id) (fun _ => id)

/-- Settles O55: only BEGIN_GRID and GRID_CHUNK write a bank, and both keep the form. -/
theorem banksStayCanonical : Obligations.BanksStayCanonical := fun _ _ =>
  step_keeps (P := State.BanksCanonical) (fun _ _ => id) (fun _ _ k => k.banks) (fun _ _ => id) (fun _ _ => id)
    (fun s p c sdo => blank_banks (began_blank p c sdo s)) (fun _ _ _ _ => id) (fun _ => id)

/-- Settles O56: every latch is of the source's own class, and SET_ENABLES refuses any other indication. -/
theorem indicationsStayInTheirClass : Obligations.IndicationsStayInTheirClass := fun _ _ =>
  step_keeps (P := State.SetsInClass) (fun _ _ => id) (fun _ _ k => k.sets) (fun _ _ => id) (fun _ _ => id)
    (fun s p c sdo => blank_sets (began_blank p c sdo s) (inClass_zero _) (inClass_zero _))
    (fun _ flags q c => sets_goesOn flags q c) (fun _ => sets_ends)

/-- Settles O57: an event that changes a paper or a match state settles the lines, and the other moves of a line keep it
in step with its condition. -/
theorem lineMachineAgreesWithCondition : Obligations.LineMachineAgreesWithCondition := fun _ _ =>
  step_keeps (P := State.LinesAgree) (fun _ _ => id) (fun _ _ k => k.lines) (fun _ _ => id) (fun _ _ => id)
    (fun s p c sdo => blank_lines (began_blank p c sdo s)) (fun _ _ _ _ => id) (fun _ => id)

/-- Settles O58: COMMIT_GRID alone starts a check, with the response, and the check's completion ends both. -/
theorem pendingExactlyWhileChecking : Obligations.PendingExactlyWhileChecking := fun _ _ =>
  step_keeps (P := State.PendingIsChecking) (fun _ _ => id) (fun _ _ k => k.checks) (fun _ _ => id) (fun _ _ => id)
    (fun s p c sdo => blank_checks (began_blank p c sdo s)) (fun _ _ _ _ => id) (fun _ => id)

/-- Settles O59: a detail grows with its latch and is emptied with its acknowledgement; a procedure begins with every
block at its reset values, takes no event of a block, and ends with RESET_OCCURRED pending. -/
theorem detailsMatchAndResetHolds : Obligations.DetailsMatchAndResetHolds := by
  intro s t h hs
  obtain ⟨queue, hpasses⟩ := step_passes hs
  exact detailsOrHeld_passes (detailsOrHeld_outside s.sdo s.conditions queue h) hpasses

/-- Settles O60: an owner keeps its bank or lets it go; BEGIN_GRID takes a bank without an owner, and a passing check
hands the context's bank to the record. -/
theorem poolOwnersStayExclusive : Obligations.PoolOwnersStayExclusive := fun _ _ =>
  step_keeps (P := State.PoolExclusive) (fun _ _ => id) (fun _ _ k => k.pool) (fun _ _ => id) (fun _ _ => id)
    (fun s p c sdo => blank_pool (began_blank p c sdo s)) (fun _ _ _ _ => id) (fun _ => id)

end Sys2Proof.Proofs
end

section
/-! The obligations of tier 1 on a step and on the reset state. -/
namespace Sys2Proof.Machine

theorem reset_blank : State.reset.Blank :=
  ⟨getElem_replicate_fin _, getElem_replicate_fin _, getElem_replicate_fin _, getElem_replicate_fin _,
    getElem_replicate_fin _, getElem_replicate_fin _, rfl, rfl⟩

theorem bankFree_iff {s : State} {b : BankId} : s.bankFree b = true ↔
    (∀ g, s.bankOf g ≠ some b) ∧ (∀ c : ContextId, s.contexts[c].bank? ≠ some b) ∧ s.laneHolds b = false := by
  refine ⟨bankFree_unowned, fun ⟨hr, hc, hl⟩ => ?_⟩
  have hrec : s.recordHolder b = none := find?_finRange_none.mpr fun g => decide_eq_false (hr g)
  have hctx : s.contextHolder b = none := find?_finRange_none.mpr fun c => decide_eq_false (hc c)
  unfold State.bankFree
  rw [hrec, hctx, hl]
  rfl

theorem laneHolds_eq_false_iff {s : State} {b : BankId} :
    s.laneHolds b = false ↔ ∀ l : LaneId, s.lanes[l].displayRef ≠ some b ∧ s.lanes[l].paperRef ≠ some b := by
  rw [← Bool.not_eq_true, laneHolds_iff]
  push Not
  rfl

/-- R154: with no pending indication but one source's, ATTN is low when that source has none enabled. -/
theorem attn_eq_false_iff {s : State} : s.attn = false ↔ ∀ src, s.pendingOf src &&& s.enabledOf src = 0 := by
  unfold State.attn
  rw [List.any_eq_false]
  refine ⟨fun h src => ?_, fun h src _ => ?_⟩
  · simpa [State.anyEnabled] using h src (mem_allSources src)
  · simpa [State.anyEnabled] using h src

theorem clientsReset_get (c : ClientId) : clientsReset[c] = ⟨false, c == 0⟩ := by
  revert c
  decide

end Sys2Proof.Machine

namespace Sys2Proof.Proofs
open Sys2Proof Sys2Proof.Machine

/-- Settles O1: the step reads the front of the queue. -/
theorem stepRunsFrontCommand : Obligations.StepRunsFrontCommand := fun _ _ _ => rfl

/-- Settles O3: each block is blank, and only the global source has an indication, which is not enabled. -/
theorem resetLeavesSpecValues : Obligations.ResetLeavesSpecValues := by
  have h := reset_blank
  refine ⟨h.records, fun b => ?free, h.contexts, h.lanes, h.channels, fun n => ⟨h.slots n, ?low⟩, rfl, rfl, rfl,
    clientsReset_get, rfl, ?attn⟩
  case free =>
    refine bankFree_iff.mpr ⟨fun g => ?_, fun c => ?_, laneHolds_eq_false_iff.mpr fun l => ?_⟩
    · unfold State.bankOf
      rw [blank_record? h g]
      nofun
    · rw [h.contexts c]
      nofun
    · rw [h.lanes l]
      exact ⟨nofun, nofun⟩
  case low =>
    unfold State.pval
    rw [h.slots n]
    rfl
  case attn =>
    rw [attn_eq_false_iff]
    intro src
    cases src with
    | global => rfl
    | slot n => simp only [State.pendingOf, State.enabledOf, h.slots n]; rfl
    | lane n => simp only [State.pendingOf, State.enabledOf, h.lanes n]; rfl
    | channel n => simp only [State.pendingOf, State.enabledOf, h.channels n]; rfl
    | record n => simp only [State.pendingOf, State.enabledOf, h.records n]; rfl

/-- Settles O52: the reset state is blank but for RESET_OCCURRED with its reason. -/
theorem resetHasTheInvariants : Obligations.ResetHasTheInvariants :=
  have h := reset_blank
  ⟨blank_admin h, blank_keys h, blank_banks h, blank_sets h rfl rfl, blank_lines h, blank_checks h,
    (detailsOrHeld_free rfl).mpr ⟨by decide, by decide, by decide⟩, blank_pool h⟩

end Sys2Proof.Proofs
end

section
/-! The host link (R167 to R188): frames, fetches, and the refusals that many requests share. -/
namespace Sys2Proof.Machine

/-! ## A request command by its block's verdict -/

section
variable {s t u : State} {i : Instr} {kind : Byte} {run : Block} {c : ClientId} {body result : List Byte}

/-- A taken request command whose block refuses. -/
theorem next_refused (ht : s.Takes) (hi : exec i s = .next (takeRequest kind run (clientByte c) body s))
    (hb : body.length ≤ 200) {g : Nat} {cs : List Cause}
    (h : run (s.caller c) body (s.driveFill (5 + body.length)) = .refused g cs) :
    exec i s = .next (s.refuses c kind body.length g cs) := by
  rw [hi, request_refused ht hb h]

/-- A taken request command whose block answers DONE. -/
theorem next_done (ht : s.Takes) (hi : exec i s = .next (takeRequest kind run (clientByte c) body s))
    (hb : body.length ≤ 200) (h : run (s.caller c) body (s.driveFill (5 + body.length)) = .done result t)
    (hu : t.respond kind .done 0 [] result = u) : exec i s = .next u := by
  rw [hi, request_done ht hb h, hu]

/-- A taken request command whose block answers DONE, or DONE_ADJUSTED when it clamped. -/
theorem next_accept (ht : s.Takes) (hi : exec i s = .next (takeRequest kind run (clientByte c) body s))
    (hb : body.length ≤ 200) {clamped : Bool}
    (h : run (s.caller c) body (s.driveFill (5 + body.length)) = accept clamped result t)
    (hu : t.respond kind (if clamped then .doneAdjusted else .done) 0 [] result = u) : exec i s = .next u := by
  rw [hi, request_accept ht hb h, hu]

end

theorem takeRequest_held {s : State} (hp : s.procedure ≠ none) (kind : Byte) (run : Block) (client : Byte)
    (body : List Byte) : takeRequest kind run client body s = { s with sdo := [] } := by
  unfold takeRequest
  rw [if_pos (Option.isSome_iff_ne_none.mpr hp)]
  rfl

theorem takeRequest_busy {s : State} (hp : s.procedure = none) (hr : s.response = .pending) (kind : Byte) (run : Block)
    (client : Byte) {body : List Byte} (hb : body.length ≤ 200) :
    takeRequest kind run client body s = s.discards (5 + body.length) .busy := by
  have hbusy : s.busy = true := by unfold State.busy; rw [hr]
  unfold takeRequest
  rw [if_neg (by rw [hp]; nofun), if_neg (show ¬ Config.bodyMax < body.length from Nat.not_lt.mpr hb), if_pos hbusy]
  rfl

theorem busy_of_takes {s : State} (ht : s.Takes) : s.busy = false := by
  unfold State.busy
  split
  · next e => exact absurd e ht.2
  · rfl
  · rfl

theorem takeRequest_unknownClient {s : State} (ht : s.Takes) (kind : Byte) (run : Block) {client : Byte}
    (hc : 7 < client.toNat) {body : List Byte} (hb : body.length ≤ 200) :
    takeRequest kind run client body s =
      { s with sdo := fill (5 + body.length), response := .ready ⟨kind, .refused, 1, [.badValue], []⟩ } := by
  unfold takeRequest
  rw [if_neg (by rw [ht.1]; nofun), if_neg (show ¬ Config.bodyMax < body.length from Nat.not_lt.mpr hb),
    if_neg (by rw [busy_of_takes ht]; nofun)]
  unfold judgeClient
  rw [numberOf_none hc]
  rfl

/-! ## The form of a body (R186, R188) -/

/-- R188: the kinds whose body has one length. -/
def oneLength : List (Byte × Nat) :=
  [(0x11, 4), (0x12, 1), (0x13, 3), (0x14, 1), (0x20, 1), (0x22, 1), (0x23, 1), (0x24, 0), (0x25, 3), (0x31, 9),
    (0x41, 1), (0x42, 2), (0x43, 2), (0x50, 13), (0x62, 14), (0x63, 1), (0x64, 1), (0x65, 1), (0x71, 6), (0x80, 0),
    (0x81, 4), (0x90, 3), (0x91, 0), (0x92, 0)]

/-- A block whose body has one length matches that length first. -/
theorem block_badLength {kind : Byte} {length : Nat} {run : Block} (hm : (kind, length) ∈ oneLength)
    (hrun : blockOf kind = some run) {body : List Byte} (hlen : body.length ≠ length) (q : Caller) (s : State) :
    run q body s = .refused 1 [.badLength] := by
  simp only [oneLength, List.mem_cons, Prod.mk.injEq, List.not_mem_nil, or_false] at hm
  rcases hm with ⟨rfl, rfl⟩ | ⟨rfl, rfl⟩ | ⟨rfl, rfl⟩ | ⟨rfl, rfl⟩ | ⟨rfl, rfl⟩ | ⟨rfl, rfl⟩ | ⟨rfl, rfl⟩ | ⟨rfl, rfl⟩ |
    ⟨rfl, rfl⟩ | ⟨rfl, rfl⟩ | ⟨rfl, rfl⟩ | ⟨rfl, rfl⟩ | ⟨rfl, rfl⟩ | ⟨rfl, rfl⟩ | ⟨rfl, rfl⟩ | ⟨rfl, rfl⟩ | ⟨rfl, rfl⟩ |
    ⟨rfl, rfl⟩ | ⟨rfl, rfl⟩ | ⟨rfl, rfl⟩ | ⟨rfl, rfl⟩ | ⟨rfl, rfl⟩ | ⟨rfl, rfl⟩ | ⟨rfl, rfl⟩
  all_goals
    cases hrun
    simp only [findRecord, readRecord, setAccess, retireRecord, beginGrid, commitGrid, abandonGrid, readPool, readNode,
      setTrim, unbindLane, setLanePolicy, readAnyUnit, setHeadCorrection, setMatchSettings, reverify, clearHold,
      readCounters, setSlotLine, readNotices, indicationOperation, setClient, clearTables, restart]
    split
    · exact absurd rfl hlen
    · rfl

/-- R9: a kind whose body is one handle looks the handle up first. -/
theorem block_onRecord {kind : Byte} {run : Block} (hrun : blockOf kind = some run)
    (hm : kind ∈ ([0x12, 0x14, 0x20, 0x22, 0x23, 0x63, 0x64, 0x65] : List Byte)) (q : Caller) (b : Byte) (s : State) :
    ∃ (allowed : Record → Bool) (go : Handle → Record → Verdict), run q [b] s = onRecord s b allowed go := by
  simp only [List.mem_cons, List.not_mem_nil, or_false] at hm
  rcases hm with rfl | rfl | rfl | rfl | rfl | rfl | rfl | rfl <;> cases hrun
  all_goals exact ⟨_, _, rfl⟩

/-- R9: of these, the kinds that need the right to change. -/
theorem block_onRecord_change {kind : Byte} {run : Block} (hrun : blockOf kind = some run)
    (hm : kind ∈ ([0x14, 0x20, 0x22, 0x23, 0x63, 0x64] : List Byte)) (q : Caller) (b : Byte) (s : State) :
    ∃ go : Handle → Record → Verdict, run q [b] s = onRecord s b q.canChange go := by
  simp only [List.mem_cons, List.not_mem_nil, or_false] at hm
  rcases hm with rfl | rfl | rfl | rfl | rfl | rfl <;> cases hrun
  all_goals exact ⟨_, rfl⟩

theorem target_none {s : State} {b : Byte} (h : s.NoRecord b) : s.target b = none := by
  unfold State.target
  cases hn : numberOf 48 b with
  | none => rfl
  | some g =>
    have hb : byteOf g.val = b := BitVec.eq_of_toNat_eq (by rw [toNat_byteOf _ (by omega), numberOf_some hn])
    rw [Option.bind_some, h g hb]
    rfl

theorem onRecord_none {s : State} {b : Byte} (h : s.target b = none) (allowed : Record → Bool)
    (go : Handle → Record → Verdict) : onRecord s b allowed go = .refused 2 [.noSuchRecord] := by
  unfold onRecord
  rw [h]

theorem onRecord_denied {s : State} {h : Handle} {r : Record} (hl : s.Live h r) {allowed : Record → Bool}
    (ha : ¬ allowed r = true) (go : Handle → Record → Verdict) :
    onRecord s (byteOf h.val) allowed go = .refused 3 [.notPermitted] := by
  rw [onRecord_live hl, if_neg ha]

theorem onRecord_allowed {s : State} {h : Handle} {r : Record} (hl : s.Live h r) {allowed : Record → Bool}
    (ha : allowed r = true) (go : Handle → Record → Verdict) : onRecord s (byteOf h.val) allowed go = go h r := by
  rw [onRecord_live hl, if_pos ha]

theorem translate_undefined {mode : Byte} (h : mode ∉ ([1, 2, 3] : List Byte)) (q : Caller) (rest : List Byte)
    (s : State) : translate q (mode :: rest) s = .refused 1 [.badValue] := by
  simp only [List.mem_cons, List.not_mem_nil, or_false, not_or] at h
  obtain ⟨h1, h2, h3⟩ := h
  simp only [translate, if_neg h1, if_neg h2, if_neg h3]

theorem overrideOf_undefined {o : Byte} (h : 2 < o.toNat) : overrideOf o = none := by
  unfold overrideOf
  rw [if_neg (by rintro rfl; cases h), if_neg (by rintro rfl; simp at h), if_neg (by rintro rfl; simp at h)]

theorem onOff_undefined {b : Byte} (h : 1 < b.toNat) : onOff b = none := by
  unfold onOff
  rw [if_neg (by rintro rfl; cases h), if_neg (by rintro rfl; simp at h)]

/-! ## Whole frames (R170, R171) -/

theorem judgeFrame_fault {rest : List Byte} {extra : Bool} {cause : LinkFault} (h : frameFault rest extra = some cause)
    (s : State) : judgeFrame (0x6B :: rest) extra s = s.discards (rest.length + 1) cause := by
  rw [show judgeFrame (0x6B :: rest) extra s = requestFrame rest extra s from rfl]
  unfold requestFrame
  rw [h, Nat.add_comm]
  rfl

theorem judgeFrame_type {type : Byte} (h1 : type ≠ 0x6B) (h2 : type ≠ 0x6C) (rest : List Byte) (extra : Bool)
    (s : State) : judgeFrame (type :: rest) extra s = s.discards (rest.length + 1) .type := by
  simp only [judgeFrame, if_neg h1, if_neg h2, Nat.add_comm]
  rfl

/-- A frame with a length byte has the client and the kind before it. -/
theorem fields_of_length {rest : List Byte} {len : Byte} (h : rest[2]? = some len) :
    ∃ client kind body, rest = client :: kind :: len :: body := by
  rcases rest with _ | ⟨client, _ | ⟨kind, _ | ⟨l, body⟩⟩⟩
  case cons.cons.cons => cases h; exact ⟨client, kind, body, rfl⟩
  all_goals cases h

theorem frameFault_eq (client kind len : Byte) (body : List Byte) (extra : Bool) :
    frameFault (client :: kind :: len :: body) extra =
      if 200 < len.toNat then some .long
      else if body.length < len.toNat + 1 then some .short
      else if len.toNat + 1 < body.length || extra then some .long
      else if byteSum (0x6B :: client :: kind :: len :: body) ≠ 0 then some .check
      else none := rfl

theorem frameFault_short {rest : List Byte} (h : rest.length < 3) (extra : Bool) :
    frameFault rest extra = some .short := by
  rcases rest with _ | ⟨_, _ | ⟨_, _ | ⟨_, _⟩⟩⟩
  case cons.cons.cons => simp only [List.length_cons] at h; omega
  all_goals rfl

/-- R170, R171: a frame outside a procedure is judged by its bytes. -/
theorem exec_frame {s : State} (hp : s.procedure = none) (bytes : List Byte) (extra : Bool) :
    exec (.requestFrameDiscard ⟨bytes, extra, none⟩) s = .next (judgeFrame bytes extra s) :=
  congrArg _ (hostFrame_free bytes extra hp)

theorem takeUnknown_held {s : State} (hp : s.procedure ≠ none) (kind client : Byte) (body : List Byte) :
    takeUnknown kind client body s = { s with sdo := [] } := by
  unfold takeUnknown
  rw [if_pos (Option.isSome_iff_ne_none.mpr hp)]
  rfl

theorem takeFrame_held {s : State} (hp : s.procedure ≠ none) (kind client : Byte) (body : List Byte) :
    takeFrame kind client body s = { s with sdo := [] } := by
  unfold takeFrame
  split
  · exact takeRequest_held hp ..
  · exact takeUnknown_held hp ..

theorem takeFrame_known {kind : Byte} {run : Block} (h : blockOf kind = some run) (client : Byte) (body : List Byte)
    (s : State) : takeFrame kind client body s = takeRequest kind run client body s := by
  unfold takeFrame
  rw [h]

theorem takeFrame_unknown {kind : Byte} (h : blockOf kind = none) (client : Byte) (body : List Byte) (s : State) :
    takeFrame kind client body s = takeUnknown kind client body s := by
  unfold takeFrame
  rw [h]

theorem takeUnknown_busy {s : State} (hp : s.procedure = none) (hr : s.response = .pending) (kind client : Byte)
    (body : List Byte) : takeUnknown kind client body s = s.discards (5 + body.length) .busy := by
  have hbusy : s.busy = true := by unfold State.busy; rw [hr]
  unfold takeUnknown
  rw [if_neg (by rw [hp]; nofun), if_pos hbusy]
  rfl

theorem takeUnknown_unknownClient {s : State} (ht : s.Takes) (kind : Byte) {client : Byte} (hc : 7 < client.toNat)
    (body : List Byte) : takeUnknown kind client body s =
      { s with
        sdo := fill (5 + body.length), response := .ready ⟨kind, .refused, 1, [.unknownKind, .badValue], []⟩ } := by
  unfold takeUnknown
  rw [if_neg (by rw [ht.1]; nofun), if_neg (by rw [busy_of_takes ht]; nofun), numberOf_none hc]
  rfl

theorem takeUnknown_taken {s : State} (ht : s.Takes) (kind : Byte) (c : ClientId) (body : List Byte) :
    takeUnknown kind (clientByte c) body s = s.refuses c kind body.length 1 [.unknownKind] := by
  unfold takeUnknown
  rw [if_neg (by rw [ht.1]; nofun), if_neg (by rw [busy_of_takes ht]; nofun), numberOf_client]
  exact complete_refused s kind c body.length 1 _

/-- R188: the 31 kinds. -/
def requestKinds : List Byte :=
  [0x10, 0x11, 0x12, 0x13, 0x14, 0x20, 0x21, 0x22, 0x23, 0x24, 0x25, 0x30, 0x31, 0x40, 0x41, 0x42, 0x43, 0x50, 0x60,
    0x61, 0x62, 0x63, 0x64, 0x65, 0x70, 0x71, 0x80, 0x81, 0x90, 0x91, 0x92]

theorem blockOf_eq_none_iff (kind : Byte) : blockOf kind = none ↔ kind ∉ requestKinds := by
  rw [← Option.isNone_iff_eq_none]
  revert kind
  decide +kernel

/-- R171: a frame of sound bytes is the request its bytes spell, in every state. -/
theorem exec_soundFrame {client kind : Byte} {body : List Byte} {check : Byte} (hb : body.length ≤ 200)
    (hsum : (0x6B :: client :: kind :: byteOf body.length :: body ++ [check]).sum = 0) (s : State) :
    exec (.requestFrameDiscard ⟨0x6B :: client :: kind :: byteOf body.length :: body ++ [check], false, none⟩) s =
      .next (takeFrame kind client body s) := by
  by_cases hp : s.procedure = none
  · have hlen : (byteOf body.length).toNat = body.length := toNat_byteOf _ (by omega)
    have hfault : frameFault (client :: kind :: byteOf body.length :: (body ++ [check])) false = none := by
      rw [frameFault_eq, hlen, List.length_append, List.length_singleton, if_neg (by omega), if_neg (by omega),
        if_neg (by simp), if_neg]
      rw [byteSum_eq]
      exact fun h => h hsum
    rw [exec_frame hp]
    change Host.Outcome.next (requestFrame (client :: kind :: byteOf body.length :: (body ++ [check])) false s) = _
    unfold requestFrame
    rw [hfault]
    simp only [hlen, List.take_left]
  · rw [takeFrame_held hp]
    exact congrArg _ (hostFrame_held _ _ hp)

/-- R186: kind 0x43 with an undefined unit class, or kind 0x81 with an undefined operation. -/
theorem readAnyUnit_undefined {body : List Byte} (hlen : body.length = 2) (h : ∀ x, body[0]? = some x → 2 < x.toNat)
    (q : Caller) (s : State) : readAnyUnit q body s = .refused 1 [.badValue] := by
  obtain ⟨cls, b, rfl⟩ := List.length_eq_two.mp hlen
  have hcls := h cls rfl
  simp only [readAnyUnit]
  rw [if_neg (by rintro rfl; cases hcls), if_neg (by rintro rfl; simp at hcls), if_neg (by rintro rfl; simp at hcls)]

theorem indicationOperation_undefined {body : List Byte} (hlen : body.length = 4)
    (h : ∀ x, body[0]? = some x → x ≠ 1 ∧ x ≠ 2) (q : Caller) (s : State) :
    indicationOperation q body s = .refused 1 [.badValue] := by
  rcases body with _ | ⟨op, _ | ⟨a, _ | ⟨b, _ | ⟨c, _ | ⟨_, _⟩⟩⟩⟩⟩
  case cons.cons.cons.cons.nil =>
    obtain ⟨h1, h2⟩ := h op rfl
    simp only [indicationOperation, if_neg h1, if_neg h2]
  all_goals simp at hlen

/-! ## The status report (R173, R187) -/

theorem exec_soundFetch {s : State} (hp : s.procedure = none) (more : List Byte) :
    exec (.fetch (0x94 :: more)) s =
      .next { s with sdo := fill 2 ++ clockOut (statusReport s.response) more.length } := by
  change Host.Outcome.next (fetchFrame (0x94 :: more) s) = _
  unfold fetchFrame
  rw [if_neg (by rw [hp]; nofun)]
  rfl

theorem length_responseBytes (r : Response) : (responseBytes r).length = 5 + r.result.length := by
  simp only [responseBytes, List.length_append, List.length_cons, List.length_nil, length_enc16]

/-- R187: the bytes of a READY response after the status byte. -/
theorem report_ready (r : Response) : ∃ n1 n0 m1 m0 : Byte,
    0x02 :: (enc16 (responseBytes r).length ++ responseBytes r) =
      [0x02, n1, n0, r.kind, encOutcome r.outcome, byteOf r.group, m1, m0] ++ r.result ∧
    (r.result.length < 65000 → u16 n1 n0 = 5 + r.result.length) ∧ u16 m1 m0 = (causeMask r.causes).toNat := by
  obtain ⟨m1, m0, hm, hcauses⟩ := enc16_toNat (causeMask r.causes).toNat (causeMask r.causes).isLt
  obtain ⟨n1, n0, hn, hlength⟩ : ∃ n1 n0 : Byte, enc16 (responseBytes r).length = [n1, n0] ∧
      ((responseBytes r).length < 65536 → u16 n1 n0 = (responseBytes r).length) := by
    refine ⟨_, _, rfl, fun h => ?_⟩
    obtain ⟨a, b, hab, hu⟩ := enc16_toNat _ h
    unfold enc16 at hab
    cases hab
    exact hu
  refine ⟨n1, n0, m1, m0, ?_, fun h => ?_, hcauses⟩
  · rw [hn]
    unfold responseBytes
    rw [hm]
    rfl
  · rw [length_responseBytes] at hlength
    exact hlength (by omega)

end Sys2Proof.Machine

namespace Sys2Proof.Proofs
open Sys2Proof Sys2Proof.Machine

/-- Settles O5: the port looks at the slot before the client, and at the client before the body. -/
theorem busyOrUnknownClientStopsARequest : Obligations.BusyOrUnknownClientStopsARequest := by
  intro i kind client body s hreq hwf hp
  obtain ⟨run, -, hexec⟩ := exec_request hreq s
  have hb := (wf_request hreq).mp hwf
  rw [hexec]
  exact ⟨fun hr => congrArg _ (takeRequest_busy hp hr kind run client hb),
    fun hr hc => congrArg _ (takeRequest_unknownClient ⟨hp, hr⟩ kind run hc hb)⟩

/-- Settles O6: of the verdicts only a refusal leaves a REFUSED response; a RESTART leaves the slot EMPTY. -/
theorem refusedRequestChangesNothingElse : Obligations.RefusedRequestChangesNothingElse := by
  intro i kind c body s t group causes result hreq hwf ht hexec hresponse
  obtain ⟨run, hrun, hi⟩ := exec_request hreq s
  rw [hi, takeRequest_taken ht kind run c body ((wf_request hreq).mp hwf)] at hexec
  cases hexec
  have hsound := block_sound hrun (s := s.driveFill (5 + body.length)) ht.2 (s.caller c) body
  cases hv : run (s.caller c) body (s.driveFill (5 + body.length)) with
  | refused g cs =>
    rw [hv, complete_refused] at hresponse
    rw [complete_refused]
    cases hresponse
    exact ⟨rfl, rfl⟩
  | done out u => rw [hv] at hresponse; cases hresponse
  | adjusted out u => rw [hv] at hresponse; cases hresponse
  | committed u => rw [hv] at hresponse; cases hresponse
  | restarted u =>
    rw [hv] at hresponse hsound
    have hu : u = beginRestart (s.driveFill (5 + body.length)) := hsound
    rw [hu] at hresponse
    cases hresponse

/-- Settles O4: a request and a fetch find SDO undriven, and an event of a block is held off. -/
theorem procedureTakesNoOtherEvent : Obligations.ProcedureTakesNoOtherEvent := by
  intro i s hp hs
  have hrequest (h : requestOf i ≠ none) : exec i s = .next { s with sdo := [] } := by
    obtain ⟨⟨kind, client, body⟩, hreq⟩ := Option.ne_none_iff_exists'.mp h
    obtain ⟨run, -, hexec⟩ := exec_request hreq s
    rw [hexec, takeRequest_held hp]
  have hevent (t : State) : Host.Outcome.next (s.event t) = (.next s : Host.Outcome State Fault Refusal) :=
    congrArg _ (event_held hp)
  cases i
  case requestFrameDiscard f =>
    obtain ⟨bytes, extra, overlap⟩ := f
    cases overlap with
    | some driven => rfl
    | none => exact congrArg _ (hostFrame_held bytes extra hp)
  case fetch after =>
    change Host.Outcome.next (fetchFrame after s) = _
    unfold fetchFrame
    rw [if_pos (Option.isSome_iff_ne_none.mpr hp)]
    rfl
  case checkCompletes => exact hevent _
  case stagingExpiry => exact hevent _
  case frameStart => exact hevent _
  case referenceChange => exact hevent _
  case signalLoss => exact hevent _
  case stripOpen => exact hevent _
  case reading => exact hevent _
  case stripClose => exact hevent _
  case inactivityExpiry => exact hevent _
  case messageDiscard => exact hevent _
  case gapTimerExpiry => exact hevent _
  case lineTimerExpiry => exact hevent _
  case receivedByte => exact hevent _
  case powerOnOnset => cases hs
  case supplyLowOnset => cases hs
  case coreClockFailOnset => cases hs
  case pinOnset => cases hs
  case conditionEnd => cases hs
  case holdTimerExpiry => cases hs
  all_goals exact hrequest nofun

/-- Settles O7: the form of the body, then the handle, then the access, each before the request's own checks. -/
theorem sharedRefusalsOfFormTargetAndAccess : Obligations.SharedRefusalsOfFormTargetAndAccess := by
  refine ⟨?length, ?codes, ?target, ?access⟩
  case length =>
    intro i kind c body length s hreq hwf ht hm hlen
    obtain ⟨run, hrun, hexec⟩ := exec_request hreq s
    exact next_refused ht hexec ((wf_request hreq).mp hwf) (block_badLength hm hrun hlen _ _)
  case codes =>
    intro s c mode o number strict admin x1 x0 y1 y0 rest ht
    refine ⟨fun hmode hlen => ?mode, fun ho => ?override, fun hflags => ?flags⟩
    case mode => exact next_refused ht rfl (by simp only [List.length_cons]; omega) (translate_undefined hmode ..)
    case override =>
      exact next_refused (body := [number, o, x1, x0, y1, y0]) ht rfl (by simp)
        (by simp only [setSlotLine, overrideOf_undefined ho])
    case flags =>
      refine next_refused (body := [number, strict, admin]) ht rfl (by simp) ?_
      rcases hflags with h | h
      · simp only [setClient, onOff_undefined h]
      · simp only [setClient, onOff_undefined h]
        cases onOff strict <;> rfl
  case target =>
    intro i kind c b s hreq ht hno hm
    obtain ⟨run, hrun, hexec⟩ := exec_request hreq s
    refine next_refused ht hexec (by simp) ?_
    obtain ⟨allowed, go, hgo⟩ := block_onRecord hrun hm (s.caller c) b (s.driveFill 6)
    exact hgo.trans (onRecord_none (target_none hno) ..)
  case access =>
    intro i kind c h r s hreq ht hl hdenied
    obtain ⟨run, hrun, hexec⟩ := exec_request hreq s
    refine next_refused ht hexec (by simp) ?_
    rcases hdenied with ⟨rfl, hnot⟩ | ⟨hm, hnot⟩
    · cases hrun
      exact onRecord_denied (s := s.driveFill 6) hl (mt (canLookup_iff s c r).mp hnot) _
    · obtain ⟨go, hgo⟩ := block_onRecord_change hrun hm (s.caller c) (byteOf h.val) (s.driveFill 6)
      exact hgo.trans (onRecord_denied (s := s.driveFill 6) hl (mt (canChange_iff s c r).mp hnot) _)

/-- Settles O8: the faults in the order of R171, each found from the bytes. -/
theorem faultyFrameIsDiscarded : Obligations.FaultyFrameIsDiscarded := by
  refine ⟨fun bytes extra s hp => ?_, fun _ _ _ _ => rfl⟩
  rcases bytes with _ | ⟨type, rest⟩
  · exact exec_frame hp [] extra
  refine ⟨fun h1 h2 => ?type, ?long, ?short, ?judged, ?fetch⟩
  case type => exact (exec_frame hp ..).trans (congrArg _ (judgeFrame_type h1 h2 rest extra s))
  case long =>
    rintro rfl len hlen hlong
    obtain ⟨client, kind, body, rfl⟩ := fields_of_length hlen
    exact (exec_frame hp ..).trans (congrArg _ (judgeFrame_fault (by rw [frameFault_eq, if_pos hlong]) s))
  case short =>
    rintro rfl hshort
    exact (exec_frame hp ..).trans (congrArg _ (judgeFrame_fault (frameFault_short hshort extra) s))
  case judged =>
    rintro rfl len hlen hmax
    obtain ⟨client, kind, body, rfl⟩ := fields_of_length hlen
    have fault {cause : LinkFault} (h : frameFault (client :: kind :: len :: body) extra = some cause) :=
      (exec_frame hp (0x6B :: client :: kind :: len :: body) extra).trans (congrArg _ (judgeFrame_fault h s))
    simp only [List.length_cons]
    refine ⟨fun h => fault ?_, fun h => fault ?_, fun h hextra => fault ?_, fun h hextra hsum => fault ?_⟩
    · rw [frameFault_eq, if_neg (by omega), if_pos (by omega)]
    · rw [frameFault_eq, if_neg (by omega), if_neg (by omega), if_pos (by simp; omega)]
    · rw [frameFault_eq, if_neg (by omega), if_neg (by omega), if_pos (by simp [hextra])]
    · rw [frameFault_eq, if_neg (by omega), if_neg (by omega), if_neg (by simp [hextra]; omega), if_pos]
      rwa [byteSum_eq]
  case fetch =>
    rintro rfl
    exact exec_frame hp (0x6C :: rest) extra

/-- Settles O9: sound bytes are taken as the request they spell, and the kind, then the client, then the class or
operation byte decide what no request command stands for. -/
theorem soundFrameIsTaken : Obligations.SoundFrameIsTaken := by
  intro client kind body check s hb hsum frame unknown undefined refusedUnread
  have hframe : exec frame s = .next (takeFrame kind client body s) := exec_soundFrame hb hsum s
  have hunknown : unknown ↔ blockOf kind = none := (blockOf_eq_none_iff kind).symm
  rw [hframe]
  refine ⟨fun i hreq => ?request, fun hp => congrArg _ (takeFrame_held hp ..), fun hp hr => ?busy, fun ht => ?taken⟩
  case request =>
    obtain ⟨run, hrun, hexec⟩ := exec_request hreq s
    rw [hexec, takeFrame_known hrun]
  case busy =>
    cases hrun : blockOf kind with
    | none => rw [takeFrame_unknown hrun, takeUnknown_busy hp hr]
    | some run => rw [takeFrame_known hrun, takeRequest_busy hp hr _ _ _ hb]
  case taken =>
    refine ⟨fun hu hc => ?_, fun hu hc => ?_, ?_⟩
    · rw [takeFrame_unknown (hunknown.mp hu), takeUnknown_unknownClient ht kind hc]
    · obtain ⟨run, hrun⟩ := Option.ne_none_iff_exists'.mp (mt hunknown.mpr hu)
      rw [takeFrame_known hrun, takeRequest_unknownClient ht kind run hc hb]
    · rintro c rfl
      refine ⟨fun hu => ?_, fun length hundefined => ?_⟩
      · rw [takeFrame_unknown (hunknown.mp hu), takeUnknown_taken ht]
      · rcases hundefined with ⟨rfl, rfl, hcls⟩ | ⟨rfl, rfl, hop⟩
        · rw [takeFrame_known (run := readAnyUnit) rfl]
          exact ⟨fun hlen => congrArg _ (request_refused ht hb (readAnyUnit_undefined hlen hcls _ _)),
            fun hlen => congrArg _ (request_refused ht hb
              (block_badLength (kind := 0x43) (by decide) rfl hlen _ _))⟩
        · rw [takeFrame_known (run := indicationOperation) rfl]
          exact ⟨fun hlen => congrArg _ (request_refused ht hb (indicationOperation_undefined hlen hop _ _)),
            fun hlen => congrArg _ (request_refused ht hb
              (block_badLength (kind := 0x81) (by decide) rfl hlen _ _))⟩

/-- Settles O10: the report of each state of the slot, closed by its own check byte. -/
theorem fetchReportsTheResponseSlot : Obligations.FetchReportsTheResponseSlot := by
  intro s hp
  refine ⟨fun more => ?sound, ?short, fun check more hcheck => ?check⟩
  case sound =>
    have report (bytes : List Byte) (h : statusReport s.response = withCheck bytes) :
        exec (.fetch (0x94 :: more)) s = .next { s with
          sdo := [0xFF, 0xFF] ++ (bytes ++ [-(byteSum bytes)]).take more.length ++
            fill (more.length - (bytes.length + 1)) } ∧ (bytes ++ [-(byteSum bytes)]).sum = 0 := by
      refine ⟨?_, (byteSum_eq _).symm.trans (byteSum_withCheck bytes)⟩
      rw [exec_soundFetch hp, h]
      unfold clockOut withCheck
      rw [List.length_append, List.length_singleton, ← List.append_assoc]
      rfl
    cases hr : s.response with
    | empty =>
      obtain ⟨hexec, hsum⟩ := report [0x00] (by rw [hr]; rfl)
      exact ⟨_, _, hr ▸ hexec, hsum, rfl⟩
    | pending =>
      obtain ⟨hexec, hsum⟩ := report [0x01] (by rw [hr]; rfl)
      exact ⟨_, _, hr ▸ hexec, hsum, rfl⟩
    | ready r =>
      obtain ⟨hexec, hsum⟩ := report (0x02 :: (enc16 (responseBytes r).length ++ responseBytes r)) (by rw [hr]; rfl)
      exact ⟨_, _, hr ▸ hexec, hsum, report_ready r⟩
  case short =>
    change Host.Outcome.next (fetchFrame [] s) = _
    unfold fetchFrame
    rw [if_neg (by rw [hp]; nofun)]
    rfl
  case check =>
    have hsum : byteSum [0x6C, check] ≠ 0 := by
      revert check
      decide +kernel
    change Host.Outcome.next (fetchFrame (check :: more) s) = _
    unfold fetchFrame
    rw [if_neg (by rw [hp]; nofun)]
    simp only [if_pos hsum]
    rfl

end Sys2Proof.Proofs
end

section
/-! What a shared operation leaves of the whole state (R105, R106, R140), and the Record Table's CREATE_RECORD and
RETIRE_RECORD. -/
namespace Sys2Proof.Machine

theorem vector_ext_fin {α : Type} {n : Nat} {v w : Vector α n} (h : ∀ i : Fin n, v[i] = w[i]) : v = w :=
  Vector.ext fun i hi => h ⟨i, hi⟩

theorem getElem_ofFn_fin {α : Type} {n : Nat} (f : Fin n → α) (i : Fin n) : (Vector.ofFn f)[i] = f i := by
  simp only [Fin.getElem_fin, Vector.getElem_ofFn]

theorem set_getElem_fin {α : Type} {n : Nat} (v : Vector α n) (i : Fin n) : v.set i v[i] = v :=
  vector_ext_fin fun j => by
    rw [getElem_set_fin]
    split
    · next e => rw [e]
    · rfl

/-! ## Abandonments (R105, R106) -/

theorem abandonOpen_eq (ch : Channel) (x : AbandonCause) : ch.abandonOpen x =
    if ch.strip.isSome then { ch with strip := none, lastAbandon := some x, pending := ch.pending ||| 0x04 }
    else ch := rfl

/-- R106: an abandonment touches the one channel, and only where a strip is open. -/
theorem abandonStrip_eq (s : State) (c : ChannelId) (x : AbandonCause) : s.abandonStrip c x = { s with
    channels := if s.channels[c].strip.isSome then
        s.channels.set c { s.channels[c] with
          strip := none, lastAbandon := some x, pending := s.channels[c].pending ||| 0x04 }
      else s.channels } := by
  unfold State.abandonStrip
  rw [abandonOpen_eq]
  split
  · rfl
  · rw [State.setChannel, set_getElem_fin]

theorem abandonAttached_eq (s : State) (h : Handle) :
    s.abandonAttached h = { s with channels := s.channelsChanged h } := by
  have hchannels : (s.abandonAttached h).channels = s.channelsChanged h := vector_ext_fin fun c => by
    unfold State.channelsChanged
    rw [abandonAttached_channel, abandonOpen_eq, getElem_ofFn_fin, ite_and]
  rw [← hchannels]
  rfl

/-! ## The lines after an event on one record (R140) -/

theorem lineCondition_live (s : State) (h : Handle) (r : Record) (p e : Byte) (n : SlotId) :
    (s.setRecord h ⟨.live r, p, e⟩).lineCondition n =
      if s.slots[n].paper = some h then r.state.inMatch else s.lineCondition n := by
  rw [lineCondition_eq, lineCondition_eq, setRecord_slots]
  cases s.slots[n].paper with
  | none => rfl
  | some g =>
    rw [Option.bind_some, Option.bind_some, record?_setRecord, if_congr Option.some_inj rfl rfl]
    split
    · next e => rw [if_pos e.symm]; rfl
    · next e => rw [if_neg (Ne.symm e)]

theorem settleLines_eq {old new : State} {h : Handle} {now : Bool} (hs : new.slots = old.slots)
    (hc : ∀ n : SlotId, new.lineCondition n = if old.slots[n].paper = some h then now else old.lineCondition n) :
    old.settleLines new = { new with slots := old.slotsAfter h now } := by
  have hslots : (old.settleLines new).slots = old.slotsAfter h now := vector_ext_fin fun n => by
    unfold State.slotsAfter
    rw [settleLines_slot, getElem_ofFn_fin, hs, hc]
    split
    · rfl
    · exact edge_same ..
  rw [← hslots]
  rfl

/-- R140: a LIVE record is replaced, and the slots whose active paper it is follow its match state. -/
theorem settleRecord_eq (s : State) (h : Handle) (r : Record) (p e : Byte) :
    s.settleLines (s.setRecord h ⟨.live r, p, e⟩) = { s with
      records := s.records.set h ⟨.live r, p, e⟩, slots := s.slotsAfter h r.state.inMatch } :=
  settleLines_eq rfl (lineCondition_live s h r p e)

/-- R106, R140: the same, where the open strips on the record are abandoned too. -/
theorem settleAbandon_eq (s : State) (h : Handle) (r : Record) (p e : Byte) :
    s.settleLines ((s.setRecord h ⟨.live r, p, e⟩).abandonAttached h) = { s with
      records := s.records.set h ⟨.live r, p, e⟩
      channels := s.channelsChanged h
      slots := s.slotsAfter h r.state.inMatch } := by
  rw [abandonAttached_eq]
  exact settleLines_eq rfl (lineCondition_live s h r p e)

/-! ## CREATE_RECORD (R10 to R12) -/

theorem createKey_done {s : State} {k : Key} {h : Handle} (hfree : s.lowestFree = some h) (hheld : s.keyHeld k = false)
    (q : Caller) (sets : Option Byte × Option Byte) : createKey q k sets s =
      .done [byteOf h.val] (s.setRecord h ⟨.live (newRecord k q.id sets.1 sets.2), 0, 0⟩) := by
  unfold createKey
  rw [hfree, hheld]

/-! ## RETIRE_RECORD (R16 to R22) -/

theorem bindingNames_iff {b : Binding} {h : Handle} : b.names h = true ↔ b.display = h ∨ b.paper = some h := by
  unfold Binding.names
  rw [Bool.or_eq_true, decide_eq_true_eq, decide_eq_true_eq]

theorem pendingNames_iff {p : PendingBinding} {h : Handle} :
    p.names h = true ↔ ∃ b, p = .bind b ∧ (b.display = h ∨ b.paper = some h) := by
  cases p with
  | absent => exact ⟨nofun, nofun⟩
  | unbind => exact ⟨nofun, nofun⟩
  | bind b => exact bindingNames_iff.trans ⟨fun e => ⟨b, rfl, e⟩, fun ⟨_, rfl, e⟩ => e⟩

/-- R16: where a lane names a record. -/
theorem laneNames_iff {x : Lane} {h : Handle} : x.names h = true ↔
    (∃ b, x.binding = some b ∧ (b.display = h ∨ b.paper = some h)) ∨
      (∃ b, x.pendingBinding = .bind b ∧ (b.display = h ∨ b.paper = some h)) ∨
        ∃ change ∈ x.changes, change.display = some h ∨ change.paper = some h := by
  have hbinding : (match x.binding with | some b => b.names h | none => false) = true ↔
      ∃ b, x.binding = some b ∧ (b.display = h ∨ b.paper = some h) := by
    cases x.binding with
    | none => exact ⟨nofun, nofun⟩
    | some b => exact bindingNames_iff.trans ⟨fun e => ⟨b, rfl, e⟩, fun ⟨_, rfl, e⟩ => e⟩
  unfold Lane.names
  rw [Bool.or_eq_true, Bool.or_eq_true, List.any_eq_true, or_assoc]
  simp only [Bool.or_eq_true, decide_eq_true_eq]
  exact or_congr hbinding (or_congr pendingNames_iff Iff.rfl)

theorem any_fin_iff {α : Type} {n : Nat} {v : Vector α n} {p : α → Bool} :
    v.any p = true ↔ ∃ i : Fin n, p v[i] = true := by
  rw [Vector.any_eq_true]
  exact ⟨fun ⟨i, hi, e⟩ => ⟨⟨i, hi⟩, e⟩, fun ⟨i, e⟩ => ⟨i.val, i.isLt, e⟩⟩

theorem inUse_iff {s : State} {h : Handle} : s.inUse h = true ↔
    (∃ n : SlotId, s.slots[n].paper = some h) ∨ ∃ l : LaneId, s.lanes[l].names h = true := by
  unfold State.inUse
  rw [Bool.or_eq_true, any_fin_iff, any_fin_iff]
  simp only [decide_eq_true_eq]

theorem isChecking_eq (s : State) (h : Handle) :
    s.isChecking h = (s.stagingOf h).elim false fun staged => staged.2.isChecking := by
  unfold State.isChecking
  rcases s.stagingOf h with _ | ⟨c, _ | _ | _⟩ <;> rfl

theorem isChecking_stagedAt {s : State} {h : Handle} {k : ContextId} (hk : s.StagedOnlyAt h k) :
    s.isChecking h = s.contexts[k].isChecking := by
  rw [isChecking_eq, stagingOf_some hk]
  rfl

theorem isChecking_eq_false {s : State} {h : Handle}
    (hno : ∀ k : ContextId, s.contexts[k].record? = some h → s.contexts[k].isChecking = false) :
    s.isChecking h = false := by
  rw [isChecking_eq]
  cases hst : s.stagingOf h with
  | none => rfl
  | some staged =>
    obtain ⟨hx, hrec⟩ := stagingOf_spec hst
    exact (congrArg Context.isChecking hx).trans (hno _ hrec)

/-- R17: where at most one context belongs to the record, dropping its load idles every context of the record. -/
theorem dropStaging_eq {s : State} {h : Handle}
    (honly : ∀ k : ContextId, s.contexts[k].record? = some h → s.StagedOnlyAt h k) : s.dropStaging h = { s with
      contexts := s.contexts.map fun x => if x.record? = some h then Context.idle else x } := by
  have hcontexts : (s.dropStaging h).contexts = s.contexts.map fun x => if x.record? = some h then .idle else x := by
    refine vector_ext_fin fun k => ?_
    rw [getElem_map_fin]
    unfold State.dropStaging
    cases hst : s.stagingOf h with
    | none => exact (if_neg (stagingOf_eq_none_iff.mp hst k)).symm
    | some staged =>
      obtain ⟨-, hrec⟩ := stagingOf_spec hst
      change (s.setContext staged.1 .idle).contexts[k] = _
      rw [setContext_contexts, getElem_set_fin]
      split
      · next e => rw [← e, if_pos hrec]
      · next e => rw [if_neg fun hk => e ((honly _ hrec).2 k hk).symm]
  rw [← hcontexts]
  unfold State.dropStaging
  split <;> rfl

theorem retireRecord_allowed {s : State} {h : Handle} {r : Record} (hl : s.Live h r) {q : Caller}
    (ha : q.canChange r = true) : retireRecord q [byteOf h.val] s =
      refuseIf 4 [(.busy, s.isChecking h), (.inUse, s.inUse h)] (retire h r s) := onRecord_allowed hl ha _

/-- R18: a lane's reference still holds the current bank. -/
theorem retire_drains {s : State} {h : Handle} {r : Record} {b : BankId} (hb : r.bank = some b)
    (hread : s.laneHolds b = true) : retire h r s =
      .done [0x02] ((s.dropStaging h).setRecord h { s.records[h] with content := .retiring r.key b }) := by
  unfold retire
  rw [hb, Option.filter_some, if_pos hread]

theorem retire_frees {s : State} {h : Handle} {r : Record} (hread : ∀ b, r.bank = some b → s.laneHolds b = false) :
    retire h r s = .done [0x00] ((s.dropStaging h).setRecord h s.records[h].retired) := by
  unfold retire
  cases hb : r.bank with
  | none => rfl
  | some b => rw [Option.filter_some, if_neg (Bool.eq_false_iff.mp (hread b hb))]

end Sys2Proof.Machine

namespace Sys2Proof.Proofs
open Sys2Proof Sys2Proof.Machine

/-- Settles O11: a body of sound form whose key is free takes the slot the search finds. -/
theorem createRecordTakesLowestFreeSlot : Obligations.CreateRecordTakesLowestFreeSlot := by
  intro s c kind m1 m0 v change lookup h ht hmedia hfree hlow hkey presence body
  have hlowest (n : Nat) : (s.driveFill n).lowestFree = some h :=
    find?_finRange (decide_eq_true hfree) fun g hg => decide_eq_false (hlow g hg)
  have hheld (n : Nat) : (s.driveFill n).keyHeld ⟨kind, u16 m1 m0, v.toNat⟩ = false :=
    Bool.eq_false_iff.mpr fun e => (keyHeld_iff.mp e).elim fun g hg => hkey g hg
  refine next_done ht rfl (length_createBody_le ..)
    ((createRecord_key hmedia ..).trans (createKey_done (hlowest _) (hheld _) ..)) ?_
  cases kind <;> rfl

/-- Settles O16: the block's two checks of group 4, and the retirement by who reads the current bank. -/
theorem retireRecordFreesOrDrains : Obligations.RetireRecordFreesOrDrains := by
  refine ⟨fun s h => inUse_iff.trans (or_congr Iff.rfl (exists_congr fun l => laneNames_iff)), ?_⟩
  intro s c h r ht hl hmay
  have hblock := retireRecord_allowed (s := s.driveFill 6) hl ((canChange_iff s c r).mpr hmay)
  rw [refuseIf_two] at hblock
  refine ⟨fun hu hno => ?inUse, fun k hk hcheck => ?busy, fun hu hno => ?retired⟩
  case inUse =>
    rw [isChecking_eq_false (s := s.driveFill 6) hno, show (s.driveFill 6).inUse h = true from hu] at hblock
    exact next_refused (body := [byteOf h.val]) ht rfl (by simp) hblock
  case busy =>
    rw [(isChecking_stagedAt (s := s.driveFill 6) hk).trans hcheck, if_pos rfl, ← apply_ite] at hblock
    exact next_refused (body := [byteOf h.val]) ht rfl (by simp) hblock
  case retired =>
    intro contexts read
    have hdrop := dropStaging_eq (s := s.driveFill 6) fun k hk => (hno k hk).2
    rw [isChecking_eq_false (s := s.driveFill 6) fun k hk => (hno k hk).1,
      show (s.driveFill 6).inUse h = false from hu] at hblock
    refine ⟨fun ⟨b, hb, hread⟩ => ⟨b, hb, ?drains⟩, fun hfree => ?frees⟩
    case drains =>
      have hretire := retire_drains (s := s.driveFill 6) (h := h) hb ((laneHolds_iff s b).mpr hread)
      rw [hdrop] at hretire
      exact next_done ht rfl (by simp) (hblock.trans hretire) rfl
    case frees =>
      have hretire := retire_frees (s := s.driveFill 6) (h := h) (r := r) fun b hb =>
        Bool.eq_false_iff.mpr (mt (laneHolds_iff s b).mp (hfree b hb))
      rw [hdrop] at hretire
      exact next_done ht rfl (by simp) (hblock.trans hretire) rfl

/-- Settles O17: the three kinds of holder, and each of the 24 banks counted as free or as held. -/
theorem bankIsFreeWhenUnheld : Obligations.BankIsFreeWhenUnheld := by
  intro s
  refine ⟨fun b => ?free, ?count⟩
  case free =>
    have hrecords : (∀ g, s.bankOf g ≠ some b) ↔ ∀ h r, s.Live h r → r.bank ≠ some b := by
      refine forall_congr' fun g => ⟨fun hno r hl hb => hno ?_, fun hno hb => ?_⟩
      · exact (congrArg (Option.bind · _) (record?_live hl)).trans hb
      · obtain ⟨r, hr, hb⟩ := Option.bind_eq_some_iff.mp hb
        exact hno r (live_of_record? hr) hb
    rw [bankFree_iff, hrecords, laneHolds_eq_false_iff]
  case count =>
    have hall := List.length_eq_countP_add_countP s.bankFree (l := List.finRange 24)
    rw [List.length_finRange] at hall
    simp only [decide_not, Bool.decide_eq_true] at hall
    exact hall.symm

end Sys2Proof.Proofs
end

section
/-! The Grid Pool (02_the_grid_pool_and_grid_loading.md): a load from BEGIN_GRID to the check, and the drain of
references. -/
namespace Sys2Proof.Machine

/-! ## A request whose body has a written length -/

section
variable {s t u : State} {i : Instr} {kind : Byte} {run : Block} {c : ClientId} {body result : List Byte} {n : Nat}

theorem exec_refused (ht : s.Takes) (hi : exec i s = .next (takeRequest kind run (clientByte c) body s)) {g : Nat}
    {cs : List Cause} (h : run (s.caller c) body (s.driveFill (5 + n)) = .refused g cs)
    (hn : body.length = n := by rfl) (hb : n ≤ 200 := by simp) : exec i s = .next (s.refuses c kind n g cs) := by
  subst hn
  exact next_refused ht hi hb h

theorem exec_done (ht : s.Takes) (hi : exec i s = .next (takeRequest kind run (clientByte c) body s))
    (h : run (s.caller c) body (s.driveFill (5 + n)) = .done result t)
    (hu : t.respond kind .done 0 [] result = u) (hn : body.length = n := by rfl) (hb : n ≤ 200 := by simp) :
    exec i s = .next u := by
  subst hn
  exact next_done ht hi hb h hu

theorem exec_accept (ht : s.Takes) (hi : exec i s = .next (takeRequest kind run (clientByte c) body s))
    {clamped : Bool} (h : run (s.caller c) body (s.driveFill (5 + n)) = accept clamped result t)
    (hu : t.respond kind (if clamped then .doneAdjusted else .done) 0 [] result = u)
    (hn : body.length = n := by rfl) (hb : n ≤ 200 := by simp) : exec i s = .next u := by
  subst hn
  exact next_accept ht hi hb h hu

/-- R41: a taken request whose block starts a check. -/
theorem exec_committed (ht : s.Takes) (hi : exec i s = .next (takeRequest kind run (clientByte c) body s))
    (h : run (s.caller c) body (s.driveFill (5 + n)) = .committed t) (hu : { t with response := .pending } = u)
    (hn : body.length = n := by rfl) (hb : n ≤ 200 := by simp) : exec i s = .next u := by
  subst hn
  rw [hi, takeRequest_taken ht kind run c body hb, h, ← hu]
  rfl

end

/-! ## Causes (R180) -/

theorem mem_failing {x : Cause} {checks : List (Cause × Bool)} : x ∈ failing checks ↔ (x, true) ∈ checks := by
  unfold failing
  rw [List.mem_map]
  constructor
  · rintro ⟨⟨y, b⟩, hy, rfl⟩
    obtain ⟨hmem, rfl⟩ := List.mem_filter.mp hy
    exact hmem
  · exact fun h => ⟨(x, true), List.mem_filter.mpr ⟨h, rfl⟩, rfl⟩

/-! ## BEGIN_GRID (R34, R35) -/

theorem beginGrid_done {s : State} {h : Handle} {r : Record} {b : BankId} {k : ContextId} (hl : s.Live h r)
    {q : Caller} (ha : q.canChange r = true) (hb : s.lowestFreeBank = some b) (hk : s.lowestIdleContext = some k)
    (hst : s.stagingOf h = none) : beginGrid q [byteOf h.val] s =
      .done [byteOf k.val, byteOf b.val] ((s.setBank b []).setContext k (.loading h b 0 Config.stagingMs)) := by
  refine (onRecord_allowed hl ha _).trans ?_
  rw [hb, hk, hst]
  rfl

/-- R35: every cause of group 4 that holds is reported. -/
theorem beginGrid_refused {s : State} {h : Handle} {r : Record} (hl : s.Live h r) {q : Caller}
    (ha : q.canChange r = true)
    (hfail : (s.stagingOf h).isSome = true ∨ s.lowestFreeBank = none ∨ s.lowestIdleContext = none) :
    beginGrid q [byteOf h.val] s = .refused 4 (failing [(.busy, (s.stagingOf h).isSome),
      (.poolEmpty, s.lowestFreeBank.isNone), (.noStaging, s.lowestIdleContext.isNone)]) := by
  refine (onRecord_allowed hl ha _).trans ?_
  rcases hfail with hst | hb | hk
  · rw [hst]
    cases s.lowestFreeBank <;> cases s.lowestIdleContext <;> rfl
  · rw [hb]
  · rw [hk]
    cases s.lowestFreeBank <;> rfl

theorem staged_iff {s : State} {h : Handle} :
    (s.stagingOf h).isSome = true ↔ ∃ k : ContextId, s.contexts[k].record? = some h := by
  rw [Option.isSome_iff_ne_none, ne_eq, stagingOf_eq_none_iff]
  push Not
  rfl

theorem lowestFreeBank_none_iff {s : State} : s.lowestFreeBank = none ↔ ∀ b, s.bankFree b = false :=
  find?_finRange_none

theorem lowestIdleContext_none_iff {s : State} :
    s.lowestIdleContext = none ↔ ∀ k : ContextId, s.contexts[k] ≠ .idle :=
  find?_finRange_none.trans (forall_congr' fun _ => decide_eq_false_iff_not)

/-! ## GRID_CHUNK (R36, R37) -/

/-- R36: what a chunk of `count` values from node `first` on must satisfy. -/
def ChunkSound (kind : Kind) (first count : Nat) (values : List Triple) : Prop :=
  1 ≤ count ∧ count ≤ 27 ∧ first + count ≤ 729 ∧ ∀ t ∈ values, nodeInRange kind t = true

theorem gridChunk_eq {h : Handle} {r : Record} {s : State} (hl : s.Live h r) (q : Caller) {n1 n0 count : Byte}
    {rest : List Byte} (hlen : rest.length = 6 * count.toNat) :
    gridChunk q (byteOf h.val :: n1 :: n0 :: count :: rest) s =
      if count = 0 ∨ 27 < count.toNat then .refused 1 [.badValue]
      else if 728 < u16 n1 n0 + count.toNat - 1 then .refused 1 [.badValue]
      else refuseIf 1 [(.badValue, !(triplesOf (nodeForm r.kind) rest).all (nodeInRange r.kind))]
        (refuseIf 3 [(.notPermitted, !q.canChange r)]
          (chunk h (u16 n1 n0) (triplesOf (nodeForm r.kind) rest) s)) := by
  unfold gridChunk
  dsimp only
  rw [if_neg (not_not.mpr hlen), target_live hl]

theorem byte_eq_zero_iff {b : Byte} : b = 0 ↔ b.toNat = 0 :=
  ⟨fun e => by rw [e]; rfl, fun e => BitVec.eq_of_toNat_eq e⟩

theorem gridChunk_unsound {h : Handle} {r : Record} {s : State} (hl : s.Live h r) (q : Caller) {n1 n0 count : Byte}
    {rest : List Byte} (hlen : rest.length = 6 * count.toNat)
    (hbad : ¬ ChunkSound r.kind (u16 n1 n0) count.toNat (triplesOf (nodeForm r.kind) rest)) :
    gridChunk q (byteOf h.val :: n1 :: n0 :: count :: rest) s = .refused 1 [.badValue] := by
  rw [gridChunk_eq hl q hlen]
  split_ifs with hcount hroom
  · rfl
  · rfl
  · rw [byte_eq_zero_iff] at hcount
    have hvalues : (triplesOf (nodeForm r.kind) rest).all (nodeInRange r.kind) = false :=
      Bool.eq_false_iff.mpr fun hall => hbad ⟨by omega, by omega, by omega, List.all_eq_true.mp hall⟩
    rw [hvalues]
    rfl

theorem gridChunk_form {h : Handle} {r : Record} {s : State} (hl : s.Live h r) (q : Caller) {n1 n0 count : Byte}
    {rest : List Byte} (hlen : rest.length = 6 * count.toNat)
    (hsound : ChunkSound r.kind (u16 n1 n0) count.toNat (triplesOf (nodeForm r.kind) rest)) :
    gridChunk q (byteOf h.val :: n1 :: n0 :: count :: rest) s =
      if q.canChange r then chunk h (u16 n1 n0) (triplesOf (nodeForm r.kind) rest) s
      else .refused 3 [.notPermitted] := by
  obtain ⟨hlow, hhigh, hroom, hvalues⟩ := hsound
  have hcount : ¬ (count = 0 ∨ 27 < count.toNat) := by rw [byte_eq_zero_iff]; omega
  rw [gridChunk_eq hl q hlen, if_neg hcount, if_neg (by omega), List.all_eq_true.mpr hvalues]
  cases q.canChange r <;> rfl

theorem chunk_unstaged {s : State} {h : Handle} (hst : s.stagingOf h = none) (first : Nat) (values : List Triple) :
    chunk h first values s = .refused 4 [.notStaging] := by
  unfold chunk
  rw [hst]

/-- The staging context of a record, as a pair. -/
theorem stagingOf_at {s : State} {h : Handle} {k : ContextId} {x : Context} (hk : s.StagedOnlyAt h k)
    (hx : s.contexts[k] = x) : s.stagingOf h = some (k, x) := by
  rw [stagingOf_some hk, hx]

/-- A CHECKING context, by its parts. -/
theorem checking_parts {x : Context} (hx : x.isChecking = true) :
    ∃ h b timer c strict, x = .checking h b timer c strict := by
  cases x with
  | checking h b timer c strict => exact ⟨h, b, timer, c, strict, rfl⟩
  | idle => cases hx
  | loading h b coverage timer => cases hx

theorem chunk_checking {s : State} {h : Handle} {k : ContextId} (hk : s.StagedOnlyAt h k)
    (hcheck : s.contexts[k].isChecking = true) (first : Nat) (values : List Triple) :
    chunk h first values s = .refused 4 [.busy] := by
  obtain ⟨_, _, _, _, _, hx⟩ := checking_parts hcheck
  unfold chunk
  rw [stagingOf_at hk hx]

theorem chunk_loading {s : State} {h : Handle} {k : ContextId} {b : BankId} {coverage : Coverage} {timer : Nat}
    (hk : s.StagedOnlyAt h k) (hx : s.contexts[k] = .loading h b coverage timer) (first : Nat)
    (values : List Triple) : chunk h first values s =
      .done (enc16 (coverageCount (coverage ||| runMask first values.length)))
        ((s.setBank b (s.banks[b].writeRun first values)).setContext k
          (.loading h b (coverage ||| runMask first values.length) Config.stagingMs)) := by
  unfold chunk
  rw [stagingOf_at hk hx]

/-- The run mask covers `count` indices from `first` on. -/
theorem runMask_get {n : Nat} (hn : n < 729) (first count : Nat) :
    (runMask first count).getLsbD n = (first ≤ n && n < first + count) := by
  unfold runMask
  rw [BitVec.getLsbD_ofNat, Nat.testBit_shiftLeft, Nat.testBit_two_pow_sub_one, decide_eq_true hn, Bool.true_and,
    ← Bool.decide_and, ← Bool.decide_and]
  exact decide_eq_decide.mpr (by omega)

/-! ## COMMIT_GRID and ABANDON_GRID (R38, R41) -/

theorem commit_unstaged {s : State} {h : Handle} (hst : s.stagingOf h = none) (q : Caller) :
    commit q h s = .refused 4 [.notStaging] := by
  unfold commit
  rw [hst]

theorem commit_checking {s : State} {h : Handle} {k : ContextId} (hk : s.StagedOnlyAt h k)
    (hcheck : s.contexts[k].isChecking = true) (q : Caller) : commit q h s = .refused 4 [.busy] := by
  obtain ⟨_, _, _, _, _, hx⟩ := checking_parts hcheck
  unfold commit
  rw [stagingOf_at hk hx]

theorem commit_loading {s : State} {h : Handle} {k : ContextId} {b : BankId} {coverage : Coverage} {timer : Nat}
    (hk : s.StagedOnlyAt h k) (hx : s.contexts[k] = .loading h b coverage timer) (q : Caller) : commit q h s =
      if coverage = BitVec.allOnes 729 then .committed (s.setContext k (.checking h b Config.checkMs q.id q.strict))
      else .refused 4 [.incomplete] := by
  unfold commit
  rw [stagingOf_at hk hx]

theorem abandonLoad_unstaged {s : State} {h : Handle} (hst : s.stagingOf h = none) :
    abandonLoad h s = .refused 4 [.notStaging] := by
  unfold abandonLoad
  rw [hst]

theorem abandonLoad_checking {s : State} {h : Handle} {k : ContextId} (hk : s.StagedOnlyAt h k)
    (hcheck : s.contexts[k].isChecking = true) : abandonLoad h s = .refused 4 [.busy] := by
  obtain ⟨_, _, _, _, _, hx⟩ := checking_parts hcheck
  unfold abandonLoad
  rw [stagingOf_at hk hx]

theorem abandonLoad_loading {s : State} {h : Handle} {k : ContextId} {b : BankId} {coverage : Coverage} {timer : Nat}
    (hk : s.StagedOnlyAt h k) (hx : s.contexts[k] = .loading h b coverage timer) :
    abandonLoad h s = .done [] (s.setContext k .idle) := by
  unfold abandonLoad
  rw [stagingOf_at hk hx]

/-- A coverage that misses a node is not full. -/
theorem coverage_incomplete {coverage : Coverage} {n : Nat} (hn : n < 729) (hmiss : coverage.getLsbD n = false) :
    coverage ≠ BitVec.allOnes 729 := by
  rintro rfl
  rw [BitVec.getLsbD_allOnes, decide_eq_true hn] at hmiss
  cases hmiss

/-! ## The commit check (R42 to R45) -/

/-- The search for the lowest number that answers. -/
theorem findSome?_range {α : Type} {f : Nat → Option α} {x : α} {n k : Nat} (hn : f n = some x) (hk : n < k)
    (hlow : ∀ m, m < n → f m = none) : (List.range k).findSome? f = some x := by
  induction k with
  | zero => omega
  | succ k ih =>
    rw [List.range_succ, List.findSome?_append]
    rcases Nat.lt_succ_iff_lt_or_eq.mp hk with hlt | rfl
    · rw [ih hlt]
      rfl
    · have hnone : (List.range n).findSome? f = none :=
        List.findSome?_eq_none_iff.mpr fun m hm => hlow m (List.mem_range.mp hm)
      rw [hnone, List.findSome?_singleton, hn]
      rfl

/-- R42: the components that decrease at step n of the neutral axis. -/
def fallsAt (kind : Kind) (ns : Nodes) (n : Nat) : Byte :=
  decreasing kind (neutralNode kind ns (n - 1)) (neutralNode kind ns n)

theorem failingStep_none {kind : Kind} {ns : Nodes} (h : ∀ n, 1 ≤ n → n ≤ 8 → fallsAt kind ns n = 0) :
    failingStep kind ns = none :=
  List.findSome?_eq_none_iff.mpr fun i hi =>
    if_pos (h (i + 1) (by omega) (by have := List.mem_range.mp hi; omega))

theorem failingStep_some {kind : Kind} {ns : Nodes} {n : Nat} (h1 : 1 ≤ n) (h8 : n ≤ 8) (hfall : fallsAt kind ns n ≠ 0)
    (hlow : ∀ m, 1 ≤ m → m < n → fallsAt kind ns m = 0) : failingStep kind ns = some (n, fallsAt kind ns n) := by
  obtain ⟨i, rfl⟩ := Nat.exists_eq_add_of_le' h1
  exact findSome?_range (if_neg hfall) (by omega) fun m hm => if_pos (hlow (m + 1) (by omega) (by omega))

theorem fallsAt_paper (ns : Nodes) (n : Nat) :
    fallsAt .paper ns n = if (ns.read (n * 91)).x < (ns.read ((n - 1) * 91)).x then 1 else 0 := by
  have hnode (m : Nat) : nodeIndex m m m = m * 91 := by unfold nodeIndex; omega
  simp only [fallsAt, decreasing, neutralNode, hnode]

theorem fallsAt_display (ns : Nodes) (n : Nat) : fallsAt .display ns n =
    (if (ns.read (n * 81 + 40)).x < (ns.read ((n - 1) * 81 + 40)).x then 1 else 0) |||
      (if (ns.read (n * 81 + 40)).y < (ns.read ((n - 1) * 81 + 40)).y then 2 else 0) |||
      (if (ns.read (n * 81 + 40)).z < (ns.read ((n - 1) * 81 + 40)).z then 4 else 0) := rfl

/-- R46: the one CHECKING context is the one whose check runs. -/
theorem runningCheck_of {s : State} {k : ContextId} {h : Handle} {b : BankId} {timer : Nat} {c : ClientId}
    {strict : Bool} (hk : s.contexts[k] = .checking h b timer c strict)
    (honly : ∀ j : ContextId, s.contexts[j].isChecking = true → j = k) :
    s.runningCheck = some (k, h, b, c, strict) := by
  cases hrun : s.runningCheck with
  | none =>
    have hnone := List.findSome?_eq_none_iff.mp hrun k (List.mem_finRange k)
    rw [hk] at hnone
    cases hnone
  | some run =>
    obtain ⟨j, h', b', c', strict'⟩ := run
    obtain ⟨t, hj⟩ := runningCheck_spec hrun
    obtain rfl := honly j (hj ▸ rfl)
    rw [hk] at hj
    cases hj
    rfl

theorem checkCompletes_running {s : State} (hp : s.procedure = none) {k : ContextId} {h : Handle} {b : BankId}
    {c : ClientId} {strict : Bool} {r : Record} (hrun : s.runningCheck = some (k, h, b, c, strict))
    (hl : s.Live h r) : checkCompletes s = completeCheck k h b c strict r s := by
  unfold checkCompletes
  rw [event_free hp, hrun]
  dsimp only
  rw [record?_live hl]

theorem completeCheck_fails {r : Record} {b : BankId} {s : State} {n : Nat} {components : Byte}
    (hf : failingStep r.kind s.banks[b] = some (n, components)) (k : ContextId) (h : Handle) (c : ClientId)
    (strict : Bool) : completeCheck k h b c strict r s =
      ((failCommit k h b s).respond 0x22 .refused 4 [.gridCheck]
        [byteOf n, reportedComponents r.kind components]).noteFault c strict := by
  unfold completeCheck
  rw [hf]

theorem completeCheck_passes {r : Record} {b : BankId} {s : State} (hf : failingStep r.kind s.banks[b] = none)
    (k : ContextId) (h : Handle) (c : ClientId) (strict : Bool) :
    completeCheck k h b c strict r s = (passCommit k h r b s).respond 0x22 .done 0 [] [byteOf b.val] := by
  unfold completeCheck
  rw [hf]

theorem passCommit_eq (k : ContextId) (h : Handle) (r : Record) (b : BankId) (s : State) : passCommit k h r b s =
    { s with
      contexts := s.contexts.set k .idle
      records := s.records.set h
        ⟨.live (r.committed b), s.records[h].pending ||| r.unverifyMask, s.records[h].enabled⟩
      channels := s.channelsChanged h
      slots := s.slotsAfter h (r.committed b).state.inMatch } :=
  settleAbandon_eq (s.setContext k .idle) h (r.committed b) _ _

/-- R44, R45: the fields of the committed record. -/
theorem committed_eq (r : Record) (b : BankId) : r.committed b = { r with
    data := match r.data with
      | .paper f => .paper { f with trim := ⟨0, 0, 0, 0⟩, whiteCandidate := none, measuredWhite := none }
      | .display => .display
    bank := some b, state := .unverified
    passStreak := 0, failStreak := 0, windowStrips := 0, windowFailing := 0 } := by
  rcases r with ⟨data⟩
  cases data <;> rfl

/-! ## The drain after a lane's references change (R21, R22, R30) -/

theorem laneHolds_setLane_iff {s : State} {l : LaneId} {x : Lane} {b : BankId} : (s.setLane l x).laneHolds b = true ↔
    x.displayRef = some b ∨ x.paperRef = some b ∨
      ∃ k : LaneId, k ≠ l ∧ (s.lanes[k].displayRef = some b ∨ s.lanes[k].paperRef = some b) := by
  rw [laneHolds_iff]
  constructor
  · rintro ⟨k, hk⟩
    rw [setLane_lanes, getElem_set_fin] at hk
    split at hk
    · exact hk.imp_right .inl
    · next hne => exact .inr (.inr ⟨k, Ne.symm hne, hk⟩)
  · intro hor
    have own (hx : x.displayRef = some b ∨ x.paperRef = some b) : ∃ k : LaneId,
        (s.setLane l x).lanes[k].displayRef = some b ∨ (s.setLane l x).lanes[k].paperRef = some b := by
      refine ⟨l, ?_⟩
      rw [setLane_lanes, getElem_set_fin, if_pos rfl]
      exact hx
    rcases hor with hd | hp | ⟨k, hne, hk⟩
    · exact own (.inl hd)
    · exact own (.inr hp)
    · refine ⟨k, ?_⟩
      rw [setLane_lanes, getElem_set_fin, if_neg hne.symm]
      exact hk

theorem endDrains_retiring {s : State} {h : Handle} {key : Key} {b : BankId}
    (hc : s.records[h].content = .retiring key b) {P : Prop} [Decidable P] (hP : s.laneHolds b = true ↔ P) :
    s.endDrains.records[h] =
      if P then s.records[h] else ⟨.free, s.records[h].pending ||| 0x20, s.records[h].enabled⟩ := by
  rw [endDrains_record, hc]
  exact if_congr hP rfl rfl

theorem endDrains_kept {s : State} {h : Handle} (hc : ∀ key b, s.records[h].content ≠ .retiring key b) :
    s.endDrains.records[h] = s.records[h] := by
  rw [endDrains_record]
  cases hx : s.records[h].content with
  | free => rfl
  | live r => rfl
  | retiring key b => exact absurd hx (hc key b)

end Sys2Proof.Machine

namespace Sys2Proof.Proofs
open Sys2Proof Sys2Proof.Machine

/-- Settles O18: the two searches find the lowest, and each failing check is a cause. -/
theorem beginGridTakesBankAndContext : Obligations.BeginGridTakesBankAndContext := by
  intro s c h r ht hl hmay staged noBank noContext
  have ha : (s.caller c).canChange r = true := (canChange_iff s c r).mpr hmay
  refine ⟨fun b k hst hb hblow hk hklow => ⟨[], fun _ => rfl, ?done⟩, fun hfail => ?refused⟩
  case done =>
    have hblock := beginGrid_done (s := s.driveFill 6) hl ha (lowestFreeBank_some (s := s.driveFill 6) hb hblow)
      (lowestIdleContext_some (s := s.driveFill 6) hk hklow)
      (stagingOf_none (s := s.driveFill 6) fun k hk => hst ⟨k, hk⟩)
    exact exec_done ht rfl hblock rfl
  case refused =>
    have hstaged : (s.stagingOf h).isSome = true ↔ staged := staged_iff
    have hnoBank : s.lowestFreeBank.isNone = true ↔ noBank :=
      Option.isNone_iff_eq_none.trans lowestFreeBank_none_iff
    have hnoContext : s.lowestIdleContext.isNone = true ↔ noContext :=
      Option.isNone_iff_eq_none.trans lowestIdleContext_none_iff
    have hblock := beginGrid_refused (s := s.driveFill 6) hl ha (hfail.imp hstaged.mpr
      (Or.imp lowestFreeBank_none_iff.mpr lowestIdleContext_none_iff.mpr))
    refine ⟨_, exec_refused ht rfl hblock, ?_, ?_, ?_, fun x hx => ?_⟩
    · rw [mem_failing, ← hstaged]
      simp only [List.mem_cons, Prod.mk.injEq, List.not_mem_nil, reduceCtorEq, true_and, false_and, or_false]
      exact eq_comm
    · rw [mem_failing, ← hnoBank]
      simp only [List.mem_cons, Prod.mk.injEq, List.not_mem_nil, reduceCtorEq, true_and, false_and, or_false, false_or]
      exact eq_comm
    · rw [mem_failing, ← hnoContext]
      simp only [List.mem_cons, Prod.mk.injEq, List.not_mem_nil, reduceCtorEq, true_and, false_and, or_false, false_or]
      exact eq_comm
    · rw [mem_failing] at hx
      simp only [List.mem_cons, Prod.mk.injEq, List.not_mem_nil, or_false] at hx
      exact hx.imp And.left (Or.imp And.left And.left)

/-- Settles O19: the checks on form and access, then the chunk by the state of the context. -/
theorem gridChunkWritesOrIsRefused : Obligations.GridChunkWritesOrIsRefused := by
  intro s c h r n1 n0 count rest ht hl hlen hmax frame first values sound
  have hsize : (byteOf h.val :: n1 :: n0 :: count :: rest).length = 4 + rest.length := by
    simp only [List.length_cons]; omega
  have hb : (byteOf h.val :: n1 :: n0 :: count :: rest).length ≤ 200 := by omega
  have refused {g : Nat} {causes : List Cause} (hblock : gridChunk (s.caller c)
        (byteOf h.val :: n1 :: n0 :: count :: rest) (s.driveFill _) = .refused g causes) :
      exec frame s = .next (s.refuses c 0x21 (4 + rest.length) g causes) :=
    hsize ▸ next_refused ht rfl hb hblock
  have hform (hsound : sound) := gridChunk_form (s := s.driveFill (5 + (4 + rest.length))) hl (s.caller c) hlen hsound
  rw [← hsize] at hform
  have hchange (hsound : sound) (hmay : MayChange s c r) :=
    (hform hsound).trans (if_pos ((canChange_iff s c r).mpr hmay))
  refine ⟨fun hbad => refused (gridChunk_unsound (s := s.driveFill _) hl _ hlen hbad),
    fun hsound hnot => refused ((hform hsound).trans (if_neg (mt (canChange_iff s c r).mp hnot))),
    fun hsound hmay hno => refused ((hchange hsound hmay).trans
      (chunk_unstaged (stagingOf_none (s := s.driveFill _) hno) ..)),
    fun hsound hmay k hk => ⟨fun hcheck => refused ((hchange hsound hmay).trans
      (chunk_checking (s := s.driveFill _) hk hcheck ..)), fun b coverage timer hx hwf => ?written⟩⟩
  case written =>
    have hdone := next_done (i := frame) ht rfl hb
      ((hchange hsound hmay).trans (chunk_loading (s := s.driveFill _) hk hx ..)) rfl
    rw [hsize] at hdone
    obtain ⟨hlow, hhigh, hroom, hvalues⟩ := hsound
    have hcount : values.length = count.toNat := length_triplesOf _ _ _ hlen
    have hread (n : Nat) := read_writeRun values n s.banks[b] first (hcount ▸ hroom) hwf
    refine ⟨_, _, hdone, fun n hn hlt => ?_, fun n hout => ?_, fun n hn => ?_⟩
    · change _ = some ((s.banks[b].writeRun first values).read n)
      rw [hread, if_pos hn, List.getElem?_eq_getElem (by omega)]
      rfl
    · change (s.banks[b].writeRun first values).read n = _
      rw [hread]
      split_ifs with hn
      · rw [List.getElem?_eq_none (by omega)]
        rfl
      · rfl
    · change (coverage ||| runMask first values.length).getLsbD n = _
      rw [BitVec.getLsbD_or, runMask_get hn, hcount]

/-- Settles O20: each request by the state of the record's context, and the expiry by that of its own. -/
theorem commitAbandonAndExpiryEndALoad : Obligations.CommitAbandonAndExpiryEndALoad := by
  refine ⟨fun s c h r ht hl hmay => ?requests, fun s k hp => ?expiry⟩
  case requests =>
    have ha : (s.caller c).canChange r = true := (canChange_iff s c r).mpr hmay
    have hcommit : commitGrid (s.caller c) [byteOf h.val] (s.driveFill 6) = _ :=
      onRecord_allowed (s := s.driveFill 6) hl ha _
    have habandon : abandonGrid (s.caller c) [byteOf h.val] (s.driveFill 6) = _ :=
      onRecord_allowed (s := s.driveFill 6) hl ha _
    refine ⟨fun k b timer hk hx => ?_, fun k b timer coverage hk hx ⟨n, hn, hmiss⟩ => ?_, fun k hk hcheck => ?_,
      fun hno => ?_, fun k b coverage timer hk hx => ?_, fun k hk hcheck => ?_, fun hno => ?_⟩
    · exact exec_committed ht rfl
        (hcommit.trans ((commit_loading (s := s.driveFill 6) hk hx _).trans (if_pos rfl))) rfl
    · exact exec_refused ht rfl (hcommit.trans
        ((commit_loading (s := s.driveFill 6) hk hx _).trans (if_neg (coverage_incomplete hn hmiss))))
    · exact exec_refused ht rfl (hcommit.trans (commit_checking (s := s.driveFill 6) hk hcheck _))
    · exact exec_refused ht rfl (hcommit.trans (commit_unstaged (stagingOf_none (s := s.driveFill 6) hno) _))
    · exact exec_done ht rfl (habandon.trans (abandonLoad_loading (s := s.driveFill 6) hk hx)) rfl
    · exact exec_refused ht rfl (habandon.trans (abandonLoad_checking (s := s.driveFill 6) hk hcheck))
    · exact exec_refused ht rfl
        (habandon.trans (abandonLoad_unstaged (stagingOf_none (s := s.driveFill 6) hno)))
  case expiry =>
    have hevent : exec (.stagingExpiry k) s = .next _ := congrArg Host.Outcome.next (event_free hp)
    refine ⟨fun h b coverage timer hx => ?_, fun hstopped => ?_⟩
    · rw [hevent, hx]
      rfl
    · rw [hevent]
      rcases hstopped with hx | hcheck
      · rw [hx]
      · obtain ⟨_, _, _, _, _, hx⟩ := checking_parts hcheck
        rw [hx]

/-- Settles O21: the lowest falling step refuses the commit, and a rising axis commits the bank. -/
theorem checkCompletesEitherWay : Obligations.CheckCompletesEitherWay := by
  intro s k h b timer c strict r hp hk honly hl node falls
  have hexec : exec .checkCompletes s = .next (completeCheck k h b c strict r s) :=
    congrArg _ (checkCompletes_running hp (runningCheck_of hk honly) hl)
  have hfalls (n : Nat) : falls n = fallsAt r.kind s.banks[b] n := by
    have hkind : r.kind = .paper ∨ r.kind = .display := by cases r.kind <;> simp
    rcases hkind with e | e
    · simp only [falls, node, e]
      exact (fallsAt_paper ..).symm
    · simp only [falls, node, e]
      exact (fallsAt_display ..).symm
  simp only [hfalls]
  refine ⟨fun n h1 h8 hfall hlow => ?fails, fun hrises => ?passes⟩
  case fails =>
    rw [hexec, completeCheck_fails (failingStep_some h1 h8 hfall hlow)]
    cases strict <;> cases r.kind <;> rfl
  case passes =>
    rw [hexec, completeCheck_passes (failingStep_none hrises), passCommit_eq, committed_eq]
    rfl

/-- Settles O22: the references as the change names them, and the drain by who holds a bank then. -/
theorem referenceChangeTakesCurrentBanks : Obligations.ReferenceChangeTakesCurrentBanks := by
  intro s l change rest hp hchanges
  let lane : Lane := { s.lanes[l] with
    displayRef := change.display.bind s.bankOf, paperRef := change.paper.bind s.bankOf, changes := rest }
  refine ⟨(s.setLane l lane).endDrains.records, ?step, fun h => ?drain⟩
  case step =>
    have hevent : exec (.referenceChange l) s = .next _ := congrArg Host.Outcome.next (event_free hp)
    rw [hevent, hchanges]
    rfl
  case drain =>
    split
    · next key b hc => exact endDrains_retiring (s := s.setLane l lane) hc laneHolds_setLane_iff
    · next hc => exact endDrains_kept (s := s.setLane l lane) fun key b e => hc key b e

end Sys2Proof.Proofs
end

section
/-! Colour Arithmetic (03_colour_arithmetic_and_translation.md): rounding, the grid lookup, TRANSLATE and SET_TRIM. -/
namespace Sys2Proof.Machine

/-! ## Rounding (R53, R54) -/

/-- A nonnegative numerator: the quotient is within half a divisor, and a tie is rounded up. -/
theorem roundDiv_nonneg {n d : Int} (hd : 0 < d) (hn : 0 ≤ n) :
    -d ≤ 2 * (n - d * roundDiv n d) ∧ 2 * (n - d * roundDiv n d) < d ∧ 0 ≤ roundDiv n d := by
  unfold roundDiv
  rw [if_pos hn]
  have hlow := Int.mul_ediv_self_le (x := 2 * n + d) (k := 2 * d) (by omega)
  have hhigh := Int.lt_mul_ediv_self_add (x := 2 * n + d) (k := 2 * d) (by omega)
  have hpos : 0 ≤ (2 * n + d) / (2 * d) := Int.ediv_nonneg (by omega) (by omega)
  rw [mul_assoc] at hlow hhigh
  exact ⟨by omega, by omega, hpos⟩

theorem roundDiv_neg (n : Int) {d : Int} (hd : 0 < d) : roundDiv (-n) d = -roundDiv n d := by
  unfold roundDiv
  rcases lt_trichotomy n 0 with hn | rfl | hn
  · rw [if_pos (by omega), if_neg (by omega), neg_neg, mul_neg]
  · simp only [neg_zero, le_refl, if_true, mul_zero, zero_add]
    rw [Int.ediv_eq_zero_of_lt (by omega) (by omega), neg_zero]
  · rw [if_neg (by omega), if_pos (by omega), mul_neg, neg_neg]

/-- R53: the nearest integer, a tie away from zero. -/
theorem roundDiv_nearest (n : Int) {d : Int} (hd : 0 < d) :
    2 * |n - d * roundDiv n d| ≤ d ∧ (2 * |n - d * roundDiv n d| = d → |n| < |d * roundDiv n d|) := by
  have nonneg {m : Int} (hm : 0 ≤ m) :
      2 * |m - d * roundDiv m d| ≤ d ∧ (2 * |m - d * roundDiv m d| = d → |m| < |d * roundDiv m d|) := by
    obtain ⟨hlow, hhigh, hpos⟩ := roundDiv_nonneg hd hm
    have hprod : 0 ≤ d * roundDiv m d := mul_nonneg hd.le hpos
    rw [abs_of_nonneg hm, abs_of_nonneg hprod]
    rcases abs_cases (m - d * roundDiv m d) with ⟨e, -⟩ | ⟨e, -⟩ <;> rw [e]
    · exact ⟨by omega, by omega⟩
    · exact ⟨by omega, by omega⟩
  rcases le_total 0 n with hn | hn
  · exact nonneg hn
  · have hneg := nonneg (m := -n) (by omega)
    rw [roundDiv_neg n hd, mul_neg, sub_neg_eq_add, neg_add_eq_sub, abs_sub_comm, abs_neg, abs_neg] at hneg
    exact hneg

theorem roundDiv_mul_self {d : Int} (hd : 0 < d) (q : Int) : roundDiv (d * q) d = q := by
  have nonneg {p : Int} (hp : 0 ≤ p) : roundDiv (d * p) d = p := by
    unfold roundDiv
    rw [if_pos (mul_nonneg hd.le hp), ← mul_assoc, add_comm, Int.add_mul_ediv_left _ _ (by omega),
      Int.ediv_eq_zero_of_lt (by omega) (by omega), zero_add]
  rcases le_total 0 q with hq | hq
  · exact nonneg hq
  · have hneg := nonneg (p := -q) (by omega)
    rw [mul_neg, roundDiv_neg _ hd] at hneg
    exact neg_injective hneg

theorem roundDiv_mono {n m d : Int} (hd : 0 < d) (h : n ≤ m) : roundDiv n d ≤ roundDiv m d := by
  unfold roundDiv
  split_ifs with hn hm
  · exact Int.ediv_le_ediv (by omega) (by omega)
  · omega
  · have hleft : 0 ≤ (-(2 * n) + d) / (2 * d) := Int.ediv_nonneg (by omega) (by omega)
    have hright : 0 ≤ (2 * m + d) / (2 * d) := Int.ediv_nonneg (by omega) (by omega)
    omega
  · exact neg_le_neg (Int.ediv_le_ediv (by omega) (by omega))

theorem applyGain_zero (v : Int) : applyGain 0 v = v := by
  unfold applyGain
  rw [add_zero, mul_comm]
  exact roundDiv_mul_self (by decide) v

/-! ## The weights of a cell (R56, R57) -/

/-- R56: the fraction of an axis lies within its cell. -/
def Axis.Sound (a : Axis) : Prop := a.frac ≤ a.width ∧ 0 < a.width

/-- R57: the cell volume. -/
def volumeOf (ax : Axis × Axis × Axis) : Nat := ax.1.width * ax.2.1.width * ax.2.2.width

theorem volumeOf_pos {ax : Axis × Axis × Axis} (h1 : ax.1.Sound) (h2 : ax.2.1.Sound) (h3 : ax.2.2.Sound) :
    0 < volumeOf ax := Nat.mul_pos (Nat.mul_pos h1.2 h2.2) h3.2

theorem axisOf_sound {u w : Nat} (hw : 0 < w) (hu : u ≤ 8 * w) : (axisOf u w).Sound := by
  refine ⟨?_, hw⟩
  change u - w * min 7 (u / w) ≤ w
  have hlt := Nat.lt_mul_div_succ u hw
  rcases le_total 7 (u / w) with h | h
  · rw [min_eq_left h]; omega
  · rw [min_eq_right h]
    rw [Nat.mul_add] at hlt
    omega

/-- R56: the cell number as the whole part, but 7 when it is 8. -/
theorem min_cell {u w : Nat} (hu : u ≤ 8 * w) : min 7 (u / w) = if u / w = 8 then 7 else u / w := by
  have h8 : u / w ≤ 8 := Nat.div_le_of_le_mul (by omega)
  split_ifs with h <;> omega

theorem weight_add (a : Axis) (h : a.Sound) : a.weight false + a.weight true = a.width := Nat.sub_add_cancel h.1

/-- R57: the eight weights add up to the volume. -/
theorem cornerWeight_sum {ax : Axis × Axis × Axis} (h1 : ax.1.Sound) (h2 : ax.2.1.Sound) (h3 : ax.2.2.Sound) :
    (corners.map (cornerWeight ax)).sum = volumeOf ax := by
  unfold volumeOf
  rw [← weight_add _ h1, ← weight_add _ h2, ← weight_add _ h3]
  simp only [corners, cornerWeight, List.map_cons, List.map_nil, List.sum_cons, List.sum_nil]
  ring

/-- R57: the weighted sum before its division. -/
def blendSum (ns : Nodes) (ax : Axis × Axis × Axis) (component : Triple → Int) : Int :=
  (corners.map fun c => (cornerWeight ax c : Int) * component (cornerNode ns ax c)).sum

theorem blend_eq (ns : Nodes) (ax : Axis × Axis × Axis) (component : Triple → Int) :
    blend ns ax component = roundDiv (blendSum ns ax component) (volumeOf ax : Nat) := rfl

/-- A weighted sum of equal values. -/
theorem weighted_const (ax : Axis × Axis × Axis) (v : Int) :
    (corners.map fun c => (cornerWeight ax c : Int) * v).sum = ((corners.map (cornerWeight ax)).sum : Nat) * v := by
  rw [List.sum_map_mul_right, Nat.cast_list_sum, List.map_map]
  rfl

/-- R57: a component of the lookup lies between any bounds of the eight corners. -/
theorem blend_between {ax : Axis × Axis × Axis} (h1 : ax.1.Sound) (h2 : ax.2.1.Sound) (h3 : ax.2.2.Sound) {ns : Nodes}
    {component : Triple → Int} {lo hi : Int}
    (hb : ∀ c ∈ corners, lo ≤ component (cornerNode ns ax c) ∧ component (cornerNode ns ax c) ≤ hi) :
    lo ≤ blend ns ax component ∧ blend ns ax component ≤ hi := by
  have hvol : (0 : Int) < (volumeOf ax : Nat) := Int.natCast_pos.mpr (volumeOf_pos h1 h2 h3)
  have hlo : ((volumeOf ax : Nat) : Int) * lo ≤ blendSum ns ax component := by
    rw [← cornerWeight_sum h1 h2 h3, ← weighted_const]
    exact List.sum_le_sum fun c hc => mul_le_mul_of_nonneg_left (hb c hc).1 (Int.natCast_nonneg _)
  have hhi : blendSum ns ax component ≤ ((volumeOf ax : Nat) : Int) * hi := by
    rw [← cornerWeight_sum h1 h2 h3, ← weighted_const]
    exact List.sum_le_sum fun c hc => mul_le_mul_of_nonneg_left (hb c hc).2 (Int.natCast_nonneg _)
  rw [blend_eq]
  constructor
  · exact (roundDiv_mul_self hvol lo).symm.le.trans (roundDiv_mono hvol hlo)
  · exact (roundDiv_mono hvol hhi).trans (roundDiv_mul_self hvol hi).le

/-- R57: at a node the lookup is that node. -/
theorem blend_corner {ax : Axis × Axis × Axis} (h1 : ax.1.Sound) (h2 : ax.2.1.Sound) (h3 : ax.2.2.Sound) (ns : Nodes)
    (component : Triple → Int) (f1 : ax.1.frac = 0) (f2 : ax.2.1.frac = 0) (f3 : ax.2.2.frac = 0) :
    blend ns ax component = component (cornerNode ns ax (false, false, false)) := by
  have hsum : blendSum ns ax component =
      (volumeOf ax : Nat) * component (cornerNode ns ax (false, false, false)) := by
    simp [blendSum, corners, cornerWeight, Axis.weight, volumeOf, f1, f2, f3]
  rw [blend_eq, hsum]
  exact roundDiv_mul_self (Int.natCast_pos.mpr (volumeOf_pos h1 h2 h3)) _

/-- R55: an input in range lies within the grid on every axis. -/
def InGrid : Kind → Triple → Bool
  | .paper, t => deviceInRange t
  | .display, t => labInRange t

theorem axesOf_sound {kind : Kind} {t : Triple} (h : InGrid kind t = true) :
    (axesOf kind t).1.Sound ∧ (axesOf kind t).2.1.Sound ∧ (axesOf kind t).2.2.Sound := by
  cases kind with
  | paper =>
    obtain ⟨hx, hy, hz⟩ := deviceInRange_iff.mp h
    rw [inRange_iff] at hx hy hz
    exact ⟨axisOf_sound (by decide) (by omega), axisOf_sound (by decide) (by omega),
      axisOf_sound (by decide) (by omega)⟩
  | display =>
    obtain ⟨hx, hy, hz⟩ := labInRange_iff.mp h
    rw [inRange_iff] at hx hy hz
    exact ⟨axisOf_sound (by decide) (by omega), axisOf_sound (by decide) (by omega),
      axisOf_sound (by decide) (by omega)⟩

/-- R60: a lookup in a grid of device values is a device value. -/
theorem deviceInRange_lookup {kind : Kind} {ns : Nodes} {t : Triple} (ht : InGrid kind t = true)
    (hns : ∀ n, deviceInRange (ns.read n) = true) : deviceInRange (lookupGrid kind ns t) = true := by
  obtain ⟨h1, h2, h3⟩ := axesOf_sound ht
  have hnode (c : Bool × Bool × Bool) := deviceInRange_iff.mp (hns (nodeIndex ((axesOf kind t).1.node c.1)
    ((axesOf kind t).2.1.node c.2.1) ((axesOf kind t).2.2.node c.2.2)))
  refine deviceInRange_iff.mpr ⟨?_, ?_, ?_⟩ <;> rw [inRange_iff]
  · exact blend_between h1 h2 h3 fun c _ => inRange_iff.mp (hnode c).1
  · exact blend_between h1 h2 h3 fun c _ => inRange_iff.mp (hnode c).2.1
  · exact blend_between h1 h2 h3 fun c _ => inRange_iff.mp (hnode c).2.2

/-! ## Inputs that a clamp moves (R58, R66) -/

theorem clampDevice_moves (t : Triple) : decide (clampDevice t ≠ t) = !deviceInRange t := by
  cases h : deviceInRange t with
  | true => exact decide_eq_false (not_not.mpr (clampDevice_inRange h))
  | false => exact decide_eq_true fun e => by rw [← e, deviceInRange_clampDevice] at h; cases h

theorem clampLab_moves (t : Triple) : decide (clampLab t ≠ t) = !labInRange t := by
  cases h : labInRange t with
  | true => exact decide_eq_false (not_not.mpr (clampLab_inRange h))
  | false => exact decide_eq_true fun e => by rw [← e, labInRange_clampLab] at h; cases h

theorem withInput_eq {q : Caller} {clamp : Triple → Triple} {t : Triple} {ok : Bool}
    (hok : decide (clamp t ≠ t) = !ok) (go : Triple → Byte → Verdict) : withInput q clamp t go =
      if !ok && q.strict then .refused 1 [.badValue] else go (clamp t) (clampFlags t (clamp t)) := by
  unfold withInput
  rw [refuseIf_one, hok]

theorem withInput_refused {q : Caller} {clamp : Triple → Triple} {t : Triple} {ok : Bool}
    (hok : decide (clamp t ≠ t) = !ok) (hbad : ok = false) (hstrict : q.strict = true)
    (go : Triple → Byte → Verdict) : withInput q clamp t go = .refused 1 [.badValue] := by
  rw [withInput_eq hok, hbad, hstrict]
  rfl

theorem withInput_taken {q : Caller} {clamp : Triple → Triple} {t : Triple} {ok : Bool}
    (hok : decide (clamp t ≠ t) = !ok) (htaken : ok = true ∨ q.strict = false) (go : Triple → Byte → Verdict) :
    withInput q clamp t go = go (clamp t) (clampFlags t (clamp t)) := by
  rw [withInput_eq hok]
  rcases htaken with h | h
  · rw [h]; rfl
  · rw [h, Bool.and_false]; rfl

/-! ## A handle of one kind (R9) -/

theorem onKind_wrong {s : State} {h : Handle} {r : Record} (hl : s.Live h r) {k : Kind} (hk : r.kind ≠ k)
    (go : Verdict) : refuseIf 2 [(.noSuchRecord, missing (s.target (byteOf h.val))),
      (.wrongKind, notKind k (s.target (byteOf h.val)))] go = .refused 2 [.wrongKind] := by
  rw [refuseIf_two, target_live hl, show notKind k (some (h, r)) = true from decide_eq_true hk]
  rfl

theorem onKind_right {s : State} {h : Handle} {r : Record} (hl : s.Live h r) {k : Kind} (hk : r.kind = k)
    (go : Verdict) : refuseIf 2 [(.noSuchRecord, missing (s.target (byteOf h.val))),
      (.wrongKind, notKind k (s.target (byteOf h.val)))] go = go := by
  rw [refuseIf_two, target_live hl, show notKind k (some (h, r)) = false from decide_eq_false (not_not.mpr hk)]
  rfl

theorem kind_paper {r : Record} {f : PaperFields} (hd : r.data = .paper f) : r.kind = .paper := by
  unfold Record.kind
  rw [hd]
  rfl

theorem kind_display {r : Record} (hd : r.data = .display) : r.kind = .display := by
  unfold Record.kind
  rw [hd]
  rfl

theorem trim_paper {r : Record} {f : PaperFields} (hd : r.data = .paper f) : r.trim = f.trim := by
  unfold Record.trim Record.paper?
  rw [hd]
  rfl

theorem onPaper_paper {r : Record} {f : PaperFields} (hd : r.data = .paper f) (g : PaperFields → PaperFields) :
    r.onPaper g = { r with data := .paper (g f) } := by
  unfold Record.onPaper
  rw [hd]

/-! ## TRANSLATE (R65 to R67) -/

section
variable {s : State} {q : Caller} {h : Handle} {r : Record} {input : Triple}

theorem translateForward_refused (hbad : deviceInRange input = false) (hstrict : q.strict = true) (hb : Byte) :
    translateForward q hb input s = .refused 1 [.badValue] := withInput_refused (clampDevice_moves input) hbad hstrict _

theorem translateRender_refused (hbad : labInRange input = false) (hstrict : q.strict = true) (hb : Byte) :
    translateRender q hb input s = .refused 1 [.badValue] := withInput_refused (clampLab_moves input) hbad hstrict _

theorem translateProof_refused (hbad : deviceInRange input = false) (hstrict : q.strict = true) (pb db : Byte) :
    translateProof q pb db input s = .refused 1 [.badValue] :=
  withInput_refused (clampDevice_moves input) hbad hstrict _

theorem translateForward_taken (hl : s.Live h r) {f : PaperFields} (hd : r.data = .paper f)
    (ha : q.canLookup r = true) (htaken : deviceInRange input = true ∨ q.strict = false) :
    translateForward q (byteOf h.val) input s = r.bank.elim (.refused 4 [.noGrid]) fun b =>
      accept (!deviceInRange input) (clampFlags input (clampDevice input) ::
        (encTriple (paperTransform s.banks[b] f.trim (clampDevice input)).1 ++
          [(paperTransform s.banks[b] f.trim (clampDevice input)).2])) s := by
  unfold translateForward
  rw [withInput_taken (clampDevice_moves input) htaken, onKind_right hl (kind_paper hd), onRecord_allowed hl ha,
    trim_paper hd, clampDevice_moves]
  cases r.bank <;> rfl

theorem translateRender_taken (hl : s.Live h r) (hd : r.data = .display) (ha : q.canLookup r = true)
    (htaken : labInRange input = true ∨ q.strict = false) :
    translateRender q (byteOf h.val) input s = r.bank.elim (.refused 4 [.noGrid]) fun b =>
      accept (!labInRange input) (clampFlags input (clampLab input) ::
        encTriple (renderTransform s.banks[b] (clampLab input))) s := by
  unfold translateRender
  rw [withInput_taken (clampLab_moves input) htaken, onKind_right hl (kind_display hd), onRecord_allowed hl ha,
    clampLab_moves]
  cases r.bank <;> rfl

theorem translateProof_taken {g : Handle} {p : Record} {f : PaperFields} (hp : s.Live g p) (hf : p.data = .paper f)
    (hl : s.Live h r) (hd : r.data = .display) (ha : q.canLookup p = true) (hb : q.canLookup r = true)
    (htaken : deviceInRange input = true ∨ q.strict = false) :
    translateProof q (byteOf g.val) (byteOf h.val) input s =
      p.bank.elim (.refused 4 [.noGrid]) fun bp => r.bank.elim (.refused 4 [.noGrid]) fun bd =>
        accept (!deviceInRange input) (proofResult (clampFlags input (clampDevice input))
          (proofTransform s.banks[bp] f.trim s.banks[bd] (clampDevice input))) s := by
  unfold translateProof
  rw [withInput_taken (clampDevice_moves input) htaken, target_live hp, target_live hl,
    clampDevice_moves, refuseIf_two, show notKind .paper (some (g, p)) = false from
      decide_eq_false (not_not.mpr (kind_paper hf)), show notKind .display (some (h, r)) = false from
      decide_eq_false (not_not.mpr (kind_display hd))]
  dsimp only [missing, Option.isNone_some, Bool.or_false]
  rw [refuseIf_one, ha, hb, trim_paper hf]
  cases p.bank <;> cases r.bank <;> rfl

end

/-! ## SET_TRIM (R61, R62) -/

/-- R61: the four values in range. -/
def trimInRange (t : Trim) : Bool :=
  inRange (-4096) 4095 t.gainL && inRange (-500) 500 t.offL && inRange (-500) 500 t.offA && inRange (-500) 500 t.offB

theorem clampTo_eq_iff {lo hi : Int} (hle : lo ≤ hi) (v : Int) : clampTo lo hi v = v ↔ inRange lo hi v = true :=
  ⟨fun e => e ▸ inRange_clampTo hle v, clampTo_inRange⟩

theorem clampTrim_moves (t : Trim) : decide (clampTrim t ≠ t) = !trimInRange t := by
  have hiff : clampTrim t = t ↔ trimInRange t = true := by
    obtain ⟨g, l, a, b⟩ := t
    simp only [clampTrim, trimInRange, Trim.mk.injEq, Bool.and_eq_true, and_assoc]
    rw [clampTo_eq_iff (by decide), clampTo_eq_iff (by decide), clampTo_eq_iff (by decide), clampTo_eq_iff (by decide)]
  cases h : trimInRange t with
  | true => exact decide_eq_false (not_not.mpr (hiff.mpr h))
  | false => exact decide_eq_true fun e => by rw [hiff.mp e] at h; cases h

theorem storeTrim_eq {s : State} {h : Handle} {r : Record} {f : PaperFields} (hd : r.data = .paper f) (t : Trim) :
    storeTrim h r t s = { s with
      records := s.store h { r with data := .paper { f with trim := t } }, channels := s.channelsChanged h } := by
  unfold storeTrim
  rw [abandonAttached_eq, onPaper_paper hd]
  rfl

/-- R181: the outcome of a taken request by whether a value was clamped. -/
theorem outcome_of_ok (ok : Bool) :
    (if !ok then OutcomeCode.doneAdjusted else .done) = if ok then .done else .doneAdjusted := by
  cases ok <;> rfl

end Sys2Proof.Machine

namespace Sys2Proof.Proofs
open Sys2Proof Sys2Proof.Machine

/-- Settles O23: each operation of the arithmetic by its own lemma. -/
theorem arithmeticRoundsAndClamps : Obligations.ArithmeticRoundsAndClamps := by
  refine ⟨fun n d hd => ?round, fun g v => ⟨rfl, applyGain_zero v⟩, fun lo hi v hle => ?clamp, fun a b => ?deviation,
    fun c t => ⟨rfl, labInRange_clampLab _, ?head⟩⟩
  case round =>
    obtain ⟨hnear, htie⟩ := roundDiv_nearest n hd
    exact ⟨hnear, htie, roundDiv_neg n hd⟩
  case clamp =>
    refine ⟨fun h => if_pos h, fun h => ?_, fun h1 h2 => clampTo_inRange (inRange_iff.mpr ⟨h1, h2⟩)⟩
    unfold clampTo
    rw [if_neg (by omega), if_pos h]
  case deviation =>
    obtain ⟨ax, ay, az⟩ := a
    obtain ⟨bx, byy, bz⟩ := b
    simp only [deviation, Triple.mk.injEq, labInRange_iff, inRange_iff]
    refine ⟨by omega, by omega, by omega, ?_⟩
    push_cast
    rfl
  case head =>
    rintro rfl ht
    unfold headCorrect
    simp only [applyGain_zero, add_zero]
    exact clampLab_inRange ht

/-- Settles O24: the model's axes are those of R55 and R56, so its blend is the mean over the eight corners. -/
theorem lookupIsAWeightedMean : Obligations.LookupIsAWeightedMean := by
  intro kind ns t hrange u w cell frac side weight node sides eight volume mean between
  have hgrid : InGrid kind t = true := by cases kind <;> exact hrange
  obtain ⟨h1, h2, h3⟩ := axesOf_sound hgrid
  have haxes : axesOf kind t = (⟨cell u.1 w.1, frac u.1 w.1, w.1⟩, ⟨cell u.2.1 w.2.1, frac u.2.1 w.2.1, w.2.1⟩,
      ⟨cell u.2.2 w.2.2, frac u.2.2 w.2.2, w.2.2⟩) := by
    have haxis (a b : Nat) (hb : a ≤ 8 * b) : axisOf a b = ⟨cell a b, frac a b, b⟩ := by
      unfold axisOf
      rw [min_cell hb]
    cases kind with
    | paper =>
      obtain ⟨hx, hy, hz⟩ := deviceInRange_iff.mp hgrid
      rw [inRange_iff] at hx hy hz
      simp only [axesOf]
      rw [haxis _ _ (by omega), haxis _ _ (by omega), haxis _ _ (by omega)]
    | display =>
      obtain ⟨hx, hy, hz⟩ := labInRange_iff.mp hgrid
      rw [inRange_iff] at hx hy hz
      simp only [axesOf]
      rw [haxis _ _ (by omega), haxis _ _ (by omega), haxis _ _ (by omega)]
  have hweight : cornerWeight (axesOf kind t) = weight := by rw [haxes]; rfl
  have hnode : cornerNode ns (axesOf kind t) = node := by
    rw [haxes]
    funext ⟨a, b, c⟩
    cases a <;> cases b <;> cases c <;> rfl
  have hvolume : volumeOf (axesOf kind t) = volume := by rw [haxes]; rfl
  have hmean (component : Triple → Int) : blend ns (axesOf kind t) component = mean component := by
    rw [blend_eq, hvolume]
    unfold blendSum
    rw [hweight, hnode]
    rfl
  have hbetween (component : Triple → Int) {lo hi : Int}
      (hb : ∀ c ∈ eight, lo ≤ component (node c) ∧ component (node c) ≤ hi) :=
    blend_between h1 h2 h3 (ns := ns) (component := component) (lo := lo) (hi := hi) (by rw [hnode]; exact hb)
  refine ⟨?mean, ?sum, ?volume, fun lo hi => hbetween _, fun lo hi => hbetween _, fun lo hi => hbetween _, ?corner⟩
  case mean => rw [← hmean, ← hmean, ← hmean]; rfl
  case sum => rw [← hvolume, ← cornerWeight_sum h1 h2 h3, hweight]; rfl
  case volume => cases kind <;> simp only [volume, w, Nat.reduceMul]
  case corner =>
    intro f1 f2 f3
    have hcorner (component : Triple → Int) :=
      blend_corner h1 h2 h3 ns component (by rw [haxes]; exact f1) (by rw [haxes]; exact f2) (by rw [haxes]; exact f3)
    unfold lookupGrid
    rw [hcorner, hcorner, hcorner, hnode]

/-- Settles O25: the transforms by definition, and each mode by its checks of form, kind, access and grid. -/
theorem translateAnswersTheTransform : Obligations.TranslateAnswersTheTransform := by
  refine ⟨fun _ _ => rfl, fun _ => ⟨rfl, rfl⟩, fun _ _ _ => rfl, fun ns t => ⟨rfl, fun ht hns => ?render⟩,
    fun _ _ _ _ => rfl, ?requests⟩
  case render => exact clampDevice_inRange (deviceInRange_lookup (kind := .display) ht hns)
  case requests =>
    intro s c a1 a0 b1 b0 c1 c0 ht device lab outcome
    have hlookup {r : Record} (hmay : MayLookup s c r) : (s.caller c).canLookup r = true :=
      (canLookup_iff s c r).mpr hmay
    refine ⟨fun h r f hl hd hmay => ?forward, fun h r hl hd hmay => ?render,
      fun g h p d f hp hf hl hd hmayp hmayd => ?proof⟩
    case forward =>
      have hmode : translate (s.caller c) [1, byteOf h.val, a1, a0, b1, b0, c1, c0] (s.driveFill 13) =
          translateForward (s.caller c) (byteOf h.val) device (s.driveFill 13) := rfl
      refine ⟨fun hbad hstrict => exec_refused ht rfl (hmode.trans (translateForward_refused hbad hstrict _)),
        fun htaken => ?_⟩
      have hblock := hmode.trans <| translateForward_taken (s := s.driveFill 13) hl hd (hlookup hmay) htaken
      refine ⟨fun hb => ?_, fun b hb => ?_⟩ <;> rw [hb] at hblock <;> dsimp only [Option.elim] at hblock
      · exact exec_refused ht rfl hblock
      · exact exec_accept (n := 8) ht rfl hblock (by rw [outcome_of_ok]; rfl)
    case render =>
      have hmode : translate (s.caller c) [2, byteOf h.val, a1, a0, b1, b0, c1, c0] (s.driveFill 13) =
          translateRender (s.caller c) (byteOf h.val) lab (s.driveFill 13) := rfl
      refine ⟨fun hbad hstrict => exec_refused ht rfl (hmode.trans (translateRender_refused hbad hstrict _)),
        fun htaken => ?_⟩
      have hblock := hmode.trans <| translateRender_taken (s := s.driveFill 13) hl hd (hlookup hmay) htaken
      refine ⟨fun hb => ?_, fun b hb => ?_⟩ <;> rw [hb] at hblock <;> dsimp only [Option.elim] at hblock
      · exact exec_refused ht rfl hblock
      · exact exec_accept (n := 8) ht rfl hblock (by rw [outcome_of_ok]; rfl)
    case proof =>
      have hmode : translate (s.caller c) [3, byteOf g.val, byteOf h.val, a1, a0, b1, b0, c1, c0] (s.driveFill 14) =
          translateProof (s.caller c) (byteOf g.val) (byteOf h.val) device (s.driveFill 14) := rfl
      refine ⟨fun hbad hstrict => exec_refused ht rfl (hmode.trans (translateProof_refused hbad hstrict ..)),
        fun htaken => ?_⟩
      have hblock := hmode.trans <|
        translateProof_taken (s := s.driveFill 14) hp hf hl hd (hlookup hmayp) (hlookup hmayd) htaken
      refine ⟨fun hnone => ?_, fun bp bd hbp hbd => ?_⟩
      · refine exec_refused ht rfl (hblock.trans ?_)
        rcases hnone with e | e <;> rw [e]
        · rfl
        · cases p.bank <;> rfl
      · rw [hbp, hbd] at hblock
        dsimp only [Option.elim] at hblock
        exact exec_accept (n := 9) ht rfl hblock (by rw [outcome_of_ok]; rfl)

/-- Settles O26: form, kind and access in turn, then the stored trim. -/
theorem setTrimStoresTheTrim : Obligations.SetTrimStoresTheTrim := by
  intro s c h r g1 g0 l1 l0 a1 a0 b1 b0 ht hl sent ok kept frame
  have hform : setTrim (s.caller c) [byteOf h.val, g1, g0, l1, l0, a1, a0, b1, b0] (s.driveFill 14) =
      refuseIf 1 [(.badValue, decide (clampTrim sent ≠ sent) && s.clients[c].strict)] _ := rfl
  rw [refuseIf_one, clampTrim_moves] at hform
  refine ⟨fun hbad hstrict => ?strict, fun htaken => ⟨fun hd => ?display, fun f hd hmay => ?paper⟩⟩
  case strict =>
    rw [show trimInRange sent = false from hbad, hstrict] at hform
    exact exec_refused ht rfl hform
  all_goals
    have hpass : (!trimInRange sent && s.clients[c].strict) = false := by
      rcases htaken with e | e
      · rw [show trimInRange sent = true from e]; rfl
      · rw [e, Bool.and_false]
    rw [hpass] at hform
  case display =>
    exact exec_refused ht rfl (hform.trans (onKind_wrong (s := s.driveFill 14) hl (by rw [kind_display hd]; nofun) _))
  case paper =>
    have hblock := (hform.trans (onKind_right (s := s.driveFill 14) hl (kind_paper hd) _)).trans
      (onRecord_allowed (s := s.driveFill 14) hl ((canChange_iff s c r).mpr hmay) _)
    rw [storeTrim_eq hd] at hblock
    exact exec_accept (n := 9) ht rfl hblock (by rw [outcome_of_ok]; rfl)

end Sys2Proof.Proofs
end

section
/-! Video Lanes (04_video_lanes.md): the lane requests, the frame start, the loss of signal and the pixel function. -/
namespace Sys2Proof.Machine

/-! ## A request on one unit (R9, R176) -/

section
variable {n : Nat} {q : Caller} {b : Byte} {k : Fin n}

theorem onUnit_none (h : n ≤ b.toNat) (q : Caller) (go : Fin n → Verdict) :
    onUnit n q b go = .refused 2 [.noSuchUnit] := by
  unfold onUnit
  rw [numberOf_none h]

theorem onUnit_denied (hk : numberOf n b = some k) (ha : ¬ q.admin = true) (go : Fin n → Verdict) :
    onUnit n q b go = .refused 3 [.notAdmin] := by
  unfold onUnit
  rw [hk]
  dsimp only
  rw [refuseIf_one, Bool.eq_false_iff.mpr ha]
  rfl

theorem onUnit_allowed (hk : numberOf n b = some k) (ha : q.admin = true) (go : Fin n → Verdict) :
    onUnit n q b go = go k := by
  unfold onUnit
  rw [hk]
  dsimp only
  rw [refuseIf_one, ha]
  rfl

/-- A byte below n names a unit. -/
theorem numberOf_of_lt (h : b.toNat < n) : numberOf n b = some ⟨b.toNat, h⟩ := dif_pos h

end

/-! ## BIND_LANE and UNBIND_LANE (R74 to R76) -/

theorem namesDisplay_iff {x : Lane} {d : Handle} : x.namesDisplay d = true ↔
    (∃ b, x.binding = some b ∧ b.display = d) ∨ ∃ b, x.pendingBinding = .bind b ∧ b.display = d := by
  unfold Lane.namesDisplay
  rw [Bool.or_eq_true]
  refine or_congr ?_ ?_
  · cases x.binding with
    | none => exact ⟨nofun, nofun⟩
    | some b => exact decide_eq_true_iff.trans ⟨fun e => ⟨b, rfl, e⟩, fun ⟨_, rfl, e⟩ => e⟩
  · cases x.pendingBinding with
    | absent => exact ⟨nofun, nofun⟩
    | unbind => exact ⟨nofun, nofun⟩
    | bind b => exact decide_eq_true_iff.trans ⟨fun e => ⟨b, rfl, e⟩, fun ⟨_, rfl, e⟩ => e⟩

theorem displayElsewhere_iff {s : State} {l : LaneId} {d : Handle} :
    s.displayElsewhere l d = true ↔ ∃ k : LaneId, k ≠ l ∧ s.lanes[k].namesDisplay d = true := by
  unfold State.displayElsewhere
  simp only [List.any_eq_true, List.mem_finRange, true_and, Bool.and_eq_true, decide_eq_true_eq]

/-- R75: with no signal the binding is applied at once. -/
theorem requestBinding_applied {s : State} {l : LaneId} (hs : s.lanes[l].signal = .noSignal)
    (binding : Option Binding) : requestBinding l binding s = .done [0x01] (s.setLane l { s.lanes[l] with
      binding := binding, pendingBinding := .absent, pending := s.lanes[l].pending ||| 0x04 }) := by
  unfold requestBinding
  rw [hs]
  rfl

/-- R75: with a signal the binding waits for the frame start. -/
theorem requestBinding_waits {s : State} {l : LaneId} (hs : s.lanes[l].signal ≠ .noSignal)
    (binding : Option Binding) : requestBinding l binding s = .done [0x00] (s.setLane l { s.lanes[l] with
      pendingBinding := match binding with | some b => .bind b | none => .unbind }) := by
  unfold requestBinding
  cases hx : s.lanes[l].signal with
  | noSignal => exact absurd hx hs
  | active t => rfl

/-- R74: a request that names a display record with a grid, and no paper record or one with a grid. -/
theorem bindRequest_sound_form {s : State} {q : Caller} {l : LaneId} {d : Handle} {rd : Record}
    {paper : Option (Handle × Record)} (ha : q.admin = true) (hl : s.Live d rd) (hd : rd.kind = .display)
    (hb : rd.bank.isSome = true)
    (hpaper : ∀ p, paper = some p → s.Live p.1 p.2 ∧ p.2.kind = .paper ∧ p.2.bank.isSome = true) :
    bindRequest q (byteOf l.val) (byteOf d.val) (paper.map fun p => byteOf p.1.val) s =
      if s.displayElsewhere l d then .refused 4 [.inUse] else requestBinding l (some ⟨d, paper.map (·.1)⟩) s := by
  have hdisplay : notKind .display (some (d, rd)) = false := decide_eq_false (not_not.mpr hd)
  have hgrid : rd.bank.isNone = false := by rw [Option.isNone_eq_false_iff]; exact hb
  unfold bindRequest State.paperTarget
  rw [numberOf_lane, target_live hl, hdisplay]
  cases paper with
  | none =>
    dsimp only [Option.map_none, Option.getD_none, missing, Option.isNone_some, Bool.or_false]
    rw [refuseIf_three, refuseIf_one, ha, hgrid, refuseIf_two]
    rfl
  | some p =>
    obtain ⟨hlp, hkp, hbp⟩ := hpaper p rfl
    have hnotPaper : notKind .paper (some (p.1, p.2)) = false := decide_eq_false (not_not.mpr hkp)
    have hgridp : p.2.bank.isNone = false := by rw [Option.isNone_eq_false_iff]; exact hbp
    dsimp only [Option.map_some]
    rw [target_live hlp]
    dsimp only [Option.map_some, Option.getD_some, missing, Option.isNone_some, Bool.or_false]
    rw [hnotPaper, refuseIf_three, refuseIf_one, ha, hgrid, hgridp, refuseIf_two]
    rfl

theorem bindLane_eq (q : Caller) (lb db : Byte) (pb : Option Byte) (s : State) :
    bindLane q ([lb, db] ++ pb.toList) s = bindRequest q lb db pb s := by
  cases pb <;> rfl

/-! ## SET_LANE_POLICY (R77) -/

theorem policyOf_undefined {b : Byte} (h : 1 < b.toNat) : policyOf b = none := by
  unfold policyOf
  rw [if_neg (by rintro rfl; cases h), if_neg (by rintro rfl; simp at h)]

theorem policyOf_defined {b : Byte} (h : b.toNat ≤ 1) : policyOf b = some (if b = 0 then .keep else .fallback) := by
  have hb : b = 0 ∨ b = 1 := by bv_omega
  rcases hb with rfl | rfl <;> rfl

/-! ## The frame start (R70, R78 to R81, R84) -/

theorem outOfMatch_live {s : State} {h : Handle} {r : Record} (hl : s.Live h r) :
    s.outOfMatch h = true ↔ r.state = .unverified ∨ r.state = .lost := by
  unfold State.outOfMatch
  rw [record?_live hl]
  dsimp only
  cases r.state <;> decide

/-- R78: stage 1 takes the pending binding up, and abandons the probe's strip when the display record changes. -/
theorem takeUp_eq (l : LaneId) (s : State) : takeUp l s = { s with
    lanes := s.lanes.set l (stageOne s.lanes[l])
    channels := if s.lanes[l].reattaches = true ∧ s.channels[probeOf l].strip.isSome = true then
        s.channels.set (probeOf l) { s.channels[probeOf l] with
          strip := none, lastAbandon := some .changed, pending := s.channels[probeOf l].pending ||| 0x04 }
      else s.channels } := by
  unfold takeUp
  cases s.lanes[l].reattaches with
  | false => rfl
  | true =>
    rw [if_pos rfl, abandonStrip_eq]
    simp only [true_and]
    rfl

/-- R79: the mode by the strip of the probe channel and the binding. -/
def modeFor (s : State) (policy : Policy) (strip : Option Strip) (bound : Option Binding) : Mode :=
  match strip, bound with
  | some _, _ => .measuring
  | none, some ⟨d, some p⟩ => if policy = .fallback ∧ (s.outOfMatch d || s.outOfMatch p) then .fallback else .proof
  | none, _ => .pass

theorem chooseMode_eq (s : State) (l : LaneId) :
    chooseMode s l = modeFor s s.lanes[l].policy s.channels[probeOf l].strip s.lanes[l].binding := by
  unfold chooseMode
  rcases s.channels[probeOf l].strip with _ | strip
  · rcases s.lanes[l].binding with _ | ⟨d, _ | p⟩ <;> rfl
  · rfl

theorem modeFor_measuring {s : State} {policy : Policy} {strip : Option Strip} {bound : Option Binding} :
    modeFor s policy strip bound = .measuring ↔ strip.isSome = true := by
  rcases strip with _ | strip
  · rcases bound with _ | ⟨d, _ | p⟩
    · exact ⟨nofun, nofun⟩
    · exact ⟨nofun, nofun⟩
    · unfold modeFor
      dsimp only
      split_ifs <;> exact ⟨nofun, nofun⟩
  · exact ⟨fun _ => rfl, fun _ => rfl⟩

/-- R84: outside MEASURING there is no strip, and what comes of a strip is absent. -/
theorem measuring_only {α : Type} {s : State} {policy : Policy} {strip : Option Strip} {bound : Option Binding}
    {o : Option α} (ho : strip = none → o = none) :
    (if modeFor s policy strip bound = .measuring then o else none) = o := by
  rw [if_congr modeFor_measuring rfl rfl]
  cases strip with
  | none => exact (ho rfl).symm
  | some strip => rfl

section
variable (l : LaneId) (s : State)

theorem takeUp_lane : (takeUp l s).lanes[l] = stageOne s.lanes[l] := by
  rw [takeUp_eq]
  exact (getElem_set_fin ..).trans (if_pos rfl)

theorem takeUp_strip : (takeUp l s).channels[probeOf l].strip =
    if s.lanes[l].reattaches = true then none else s.channels[probeOf l].strip := by
  rw [takeUp_eq]
  dsimp only
  cases s.lanes[l].reattaches with
  | false => rfl
  | true =>
    split_ifs with h
    · rw [getElem_set_fin, if_pos rfl]
      rfl
    · exact Option.not_isSome_iff_eq_none.mp fun e => h ⟨rfl, e⟩

theorem takeUp_record? : (takeUp l s).record? = s.record? := by
  rw [takeUp_eq]
  rfl

theorem modeFor_takeUp : modeFor (takeUp l s) = modeFor s := by
  rw [takeUp_eq]
  rfl

end

/-! ## Pixels (R69, R82 to R84) -/

theorem videoOut_pixel (s : State) (l : LaneId) {v : VideoSignals} (hv : v.dataEnable = true) :
    s.videoOut l v = (s.pixelOut l v.word).map fun w => { v with word := w } := if_pos hv

/-! ## The loss of signal (R71) -/

theorem lost_eq (x : Lane) : x.lost = { x with
    signal := .noSignal, mode := .pass, displayRef := none, paperRef := none, measuring := none
    frameTrim := none, framePatch := none, changes := []
    pending := x.pending ||| 0x01 ||| (if x.mode = .fallback then 0x02 else 0) } := by
  have hmask : fallbackMask x.mode .pass = if x.mode = .fallback then 0x02 else 0 := by cases x.mode <;> rfl
  unfold Lane.lost
  rw [hmask]
  rfl

/-! ## SET_HEAD_CORRECTION (R95, R96) -/

theorem clampCorrection_moves (x : Correction) (strict : Bool) :
    (decide (clampCorrection x ≠ x) && strict) = true ↔ x ≠ clampCorrection x ∧ strict = true := by
  rw [Bool.and_eq_true, decide_eq_true_eq, ne_comm]

end Sys2Proof.Machine

namespace Sys2Proof.Proofs
open Sys2Proof Sys2Proof.Machine

/-- Settles O27: the binding by the signal of its lane, and the policy by value, unit and admin. -/
theorem laneRequestsBindUnbindAndSetPolicy : Obligations.LaneRequestsBindUnbindAndSetPolicy := by
  refine ⟨fun x d => namesDisplay_iff, ?bindings, fun s c lane code ht => ⟨fun hcode => ?value,
    fun hcode hlane => ?unit, fun hcode hlane hnot => ?admin, fun l hcode hlane ha => ?policy⟩⟩
  case bindings =>
    intro s c l ht ha applied waiting
    refine ⟨?bind, ?unbindApplied, ?unbindWaits⟩
    case bind =>
      intro d rd paper hl hd hb hpaper body binding
      have hsize : body.length ≤ 200 := by cases paper <;> simp [body]
      have hblock : bindLane (s.caller c) body (s.driveFill (5 + body.length)) = _ :=
        (bindLane_eq ..).trans (bindRequest_sound_form (s := s.driveFill _) ha hl (kind_display hd) hb hpaper)
      refine ⟨fun helse => ?inUse, fun hfree => ⟨fun hs => ?applied, fun hs => ?waits⟩⟩
      case inUse =>
        exact next_refused ht rfl hsize (hblock.trans (if_pos (displayElsewhere_iff (s := s.driveFill _).mpr helse)))
      all_goals
        have hnone : ¬ (s.driveFill (5 + body.length)).displayElsewhere l d = true := fun e => by
          obtain ⟨k, hk, hnames⟩ := displayElsewhere_iff.mp e
          exact Bool.false_ne_true ((hfree k hk).symm.trans hnames)
      case applied =>
        exact next_done ht rfl hsize ((hblock.trans (if_neg hnone)).trans
          (requestBinding_applied (s := s.driveFill _) hs _)) rfl
      case waits =>
        exact next_done ht rfl hsize ((hblock.trans (if_neg hnone)).trans
          (requestBinding_waits (s := s.driveFill _) hs _)) rfl
    case unbindApplied =>
      exact fun hs => exec_done (n := 1) ht rfl
        ((onUnit_allowed (numberOf_lane l) ha _).trans (requestBinding_applied (s := s.driveFill _) hs none)) rfl
    case unbindWaits =>
      exact fun hs => exec_done (n := 1) ht rfl
        ((onUnit_allowed (numberOf_lane l) ha _).trans (requestBinding_waits (s := s.driveFill _) hs none)) rfl
  case value =>
    refine exec_refused ht rfl ?_
    simp only [setLanePolicy, policyOf_undefined hcode]
  all_goals
    have hblock : setLanePolicy (s.caller c) [lane, code] (s.driveFill 7) = onUnit 2 (s.caller c) lane fun l =>
        .done [] (s.driveFill 7 |>.setLane l { s.lanes[l] with policy := if code = 0 then .keep else .fallback }) := by
      simp only [setLanePolicy, policyOf_defined hcode]
      rfl
  case unit => exact exec_refused ht rfl (hblock.trans (onUnit_none (by omega) ..))
  case admin =>
    exact exec_refused ht rfl (hblock.trans (onUnit_denied (numberOf_of_lt (by omega)) hnot _))
  case policy =>
    exact exec_done (n := 2) ht rfl (hblock.trans (onUnit_allowed (hlane ▸ numberOf_lane l) ha _)) rfl

/-- Settles O28: stage 1, the mode of R79 and the fields of the frame; and what a pixel becomes in each mode. -/
theorem frameStartRunsItsStages : Obligations.FrameStartRunsItsStages := by
  refine ⟨fun s h r hl => outOfMatch_live hl, fun s l v => ?pixels, fun s l hp => ?frame⟩
  case pixels =>
    intro x shows
    have shown {t : Triple} (ht : deviceInRange t = true) (hv : v.dataEnable = true)
        (hout : s.pixelOut l v.word = some t.word) : shows t := by
      have hword := word_triple t ht
      refine ⟨t.word, ?_, congrArg Triple.x hword, congrArg Triple.y hword, congrArg Triple.z hword⟩
      rw [videoOut_pixel s l hv, hout]
      rfl
    refine ⟨videoOut_blank s l v, fun hv => ⟨fun hmode => ?pass, fun hmode hc d p trim hd hpr ht => ?proof,
      fun hmode hc d patch hd hpatch => ?measuring, fun hmode hc => ?waits⟩⟩
    case pass =>
      rw [videoOut_pixel s l hv, pixelOut_pass hmode]
      rfl
    case proof =>
      refine shown (deviceInRange_proofTransform ..) hv ?_
      unfold State.pixelOut
      rw [hmode, hc, hd, hpr, ht]
      rfl
    case measuring =>
      refine shown (deviceInRange_renderTransform ..) hv ?_
      unfold State.pixelOut
      rw [hmode, hc, hd, hpatch]
    case waits =>
      have hout : s.pixelOut l v.word = none := by
        obtain ⟨change, rest, hcons⟩ := List.exists_cons_of_ne_nil hc
        unfold State.pixelOut
        rcases hmode with e | e <;> rw [e, hcons]
      rw [videoOut_pixel s l hv, hout]
      rfl
  case frame =>
    intro x ch bound moved strip mode index
    have hexec : exec (.frameStart l) s = .next (chooseFrame l (takeUp l s)) :=
      congrArg Host.Outcome.next (event_free hp)
    have hstrip : (takeUp l s).channels[probeOf l].strip = strip := takeUp_strip l s
    have hmode : chooseMode (takeUp l s) l = modeFor s x.policy strip bound := by
      rw [chooseMode_eq, takeUp_lane, hstrip, modeFor_takeUp]
      rfl
    have hindex : measuringIndex (takeUp l s) l = index := by
      unfold measuringIndex
      rw [hstrip]
    have hlane : enterFrame (takeUp l s) l (modeFor s x.policy strip bound) = { stageOne x with
        mode := modeFor s x.policy strip bound
        measuring := index
        framePatch := index.bind fun m => (bound.bind fun b => s.record? b.display).bind fun r => r.patches[m]?
        frameTrim := if modeFor s x.policy strip bound = .proof then
          ((bound.bind (·.paper)).bind s.record?).map (·.trim) else none
        changes := x.changes ++ [changeFor (modeFor s x.policy strip bound) bound]
        pending := (stageOne x).pending ||| fallbackMask x.mode (modeFor s x.policy strip bound) } := by
      unfold enterFrame patchOfFrame trimOfFrame
      rw [takeUp_lane, hindex, takeUp_record?, measuring_only fun e => by simp only [index, e, Option.map_none],
        measuring_only fun e => by simp only [index, e, Option.map_none, Option.bind_none]]
      rfl
    rw [hexec]
    unfold chooseFrame
    rw [hmode, hlane, takeUp_eq]
    simp only [State.setLane, Vector.set_set]
    rfl

/-- Settles O29: the lane and its probe strip lose the signal, and the drain follows the other lane's references. -/
theorem signalLossStopsTheLane : Obligations.SignalLossStopsTheLane := by
  intro s l hp x ch
  have hevent : exec (.signalLoss l) s = .next _ := congrArg Host.Outcome.next (event_free hp)
  refine ⟨fun hs => ?stopped, fun hs => ?active⟩
  case stopped => rw [hevent, show s.lanes[l].signal = .noSignal from hs]
  case active =>
    let lostState : State := (s.setLane l x.lost).abandonStrip (probeOf l) .noSignal
    refine ⟨lostState.endDrains.records, ?lost, fun h => ?drain⟩
    case lost =>
      have hlose : exec (.signalLoss l) s = .next lostState.endDrains := by
        rw [hevent]
        cases hx : s.lanes[l].signal with
        | noSignal => exact absurd hx hs
        | active t => rfl
      have hlost : lostState = _ := abandonStrip_eq (s.setLane l x.lost) (probeOf l) .noSignal
      have hdrain : lostState.endDrains = { lostState with records := lostState.endDrains.records } := rfl
      rw [hlose, hdrain]
      generalize lostState.endDrains.records = records
      rw [hlost, lost_eq]
      rfl
    case drain =>
      have hholds (b : BankId) : lostState.laneHolds b = true ↔
          ∃ k : LaneId, k ≠ l ∧ (s.lanes[k].displayRef = some b ∨ s.lanes[k].paperRef = some b) :=
        laneHolds_setLane_iff.trans ((or_iff_right nofun).trans (or_iff_right nofun))
      split
      · next key b hc => exact endDrains_retiring (s := lostState) hc (hholds b)
      · next hc => exact endDrains_kept (s := lostState) fun key b e => hc key b e

/-- Settles O30: the value, the unit's admin and the stored correction. -/
theorem setHeadCorrectionReplacesTheSix : Obligations.SetHeadCorrectionReplacesTheSix := by
  intro s c k g1 g0 o1 o0 h1 h0 p1 p0 i1 i0 q1 q0 ht sent gain offset kept frame ch
  have hblock : setHeadCorrection (s.caller c) [byteOf k.val, g1, g0, o1, o0, h1, h0, p1, p0, i1, i0, q1, q0]
      (s.driveFill 18) = refuseIf 1 [(.badValue, decide (kept ≠ sent) && s.clients[c].strict)]
        (onUnit 6 (s.caller c) (byteOf k.val) fun k =>
          accept (decide (kept ≠ sent)) (encCorrection kept) (storeCorrection k kept (s.driveFill 18))) := rfl
  rw [refuseIf_one] at hblock
  refine ⟨fun hne hstrict => ?strict, fun htaken => ⟨fun hnot => ?denied, fun ha => ?stored⟩⟩
  case strict => exact exec_refused ht rfl (hblock.trans (if_pos ((clampCorrection_moves ..).mpr ⟨hne, hstrict⟩)))
  all_goals
    rw [if_neg fun e => by
      obtain ⟨hne, hstrict⟩ := (clampCorrection_moves ..).mp e
      exact htaken.elim hne fun hlenient => Bool.false_ne_true (hlenient.symm.trans hstrict)] at hblock
  case denied => exact exec_refused ht rfl (hblock.trans (onUnit_denied (numberOf_channel k) hnot _))
  case stored =>
    refine exec_accept (n := 13) ht rfl (hblock.trans (onUnit_allowed (numberOf_channel k) ha _)) ?_
    by_cases e : sent = kept
    · rw [if_neg (by simp [e]), if_pos e]
      rfl
    · rw [if_pos (by simpa using Ne.symm e), if_neg e]
      rfl

end Sys2Proof.Proofs
end

section
/-! The Instrument Receiver and the Strip Assemblers (05_instrument_link_and_strip_assembly.md). -/
namespace Sys2Proof.Machine

/-! ## Opening (R97, R98) -/

theorem laneOfChannel_eq_some_iff {c : ChannelId} {l : LaneId} : laneOfChannel c = some l ↔ c = probeOf l := by
  revert c l
  decide

/-- R98: the probe channels of a lane without signal. -/
theorem noSignal_iff {s : State} {c : ChannelId} :
    (∃ l, laneOfChannel c = some l ∧ s.lanes[l].signal = .noSignal) ↔
      ∃ l : LaneId, c = probeOf l ∧ s.lanes[l].signal = .noSignal := by
  simp only [laneOfChannel_eq_some_iff]

theorem signalRefusal_eq (s : State) (c : ChannelId) {P : Prop} [Decidable P]
    (hP : P ↔ ∃ l : LaneId, c = probeOf l ∧ s.lanes[l].signal = .noSignal) :
    (match laneOfChannel c with
      | none => none
      | some l => if s.lanes[l].signal = .noSignal then some AbandonCause.noSignal else none) =
      if P then some .noSignal else none := by
  rw [← noSignal_iff] at hP
  cases hlane : laneOfChannel c with
  | none => exact (if_neg fun h => by obtain ⟨l, e, -⟩ := hP.mp h; rw [hlane] at e; cases e).symm
  | some l =>
    refine if_congr ?_ rfl rfl
    rw [hP]
    refine ⟨fun hs => ⟨l, hlane, hs⟩, fun ⟨k, e, hs⟩ => ?_⟩
    rw [hlane] at e
    cases e
    exact hs

/-- R105: an overrun that precedes another abandonment leaves no trace of its own. -/
theorem abandon_overrun (ch : Channel) (x y : AbandonCause) : (ch.abandonOpen x).abandon y = ch.abandon y := by
  rw [abandonOpen_eq]
  split
  · unfold Channel.abandon
    rw [show indStripAbandoned = 0x04 from rfl, BitVec.or_assoc, BitVec.or_self]
  · rfl

theorem openStrip_refused {s : State} {c : ChannelId} {count : Nat} {x : AbandonCause}
    (h : openRefusal s c count = some x) : openStrip c count s = s.setChannel c (s.channels[c].abandon x) := by
  unfold openStrip
  rw [h]
  dsimp only
  rw [abandon_overrun]

theorem openStrip_opens {s : State} {c : ChannelId} {count : Nat} (h : openRefusal s c count = none) :
    openStrip c count s = s.setChannel c (if s.channels[c].strip.isSome then
      { s.channels[c] with
        strip := some ⟨count, [], 2000⟩, lastAbandon := some .overrun, pending := s.channels[c].pending ||| 0x04 }
      else { s.channels[c] with strip := some ⟨count, [], 2000⟩ }) := by
  unfold openStrip
  rw [h]
  dsimp only
  rw [abandonOpen_eq]
  split <;> rfl

/-! ## Closing (R100 to R103) -/

theorem closeStrip_idle {s : State} {c : ChannelId} (h : s.channels[c].strip = none) :
    closeStrip c s = s.setChannel c (s.channels[c].abandon .stray) := by
  unfold closeStrip
  rw [h]

theorem closeStrip_open {s : State} {c : ChannelId} {st : Strip} (h : s.channels[c].strip = some st) :
    closeStrip c s = if st.readings.length < st.count then s.setChannel c (s.channels[c].abandon .short)
      else handOver c st s := by
  unfold closeStrip
  rw [h]

theorem attachedRecord_of {s : State} {c : ChannelId} {h : Handle} {r : Record} (ha : s.attached c = some h)
    (hl : s.Live h r) : s.attachedRecord c = some (h, r) := by
  unfold State.attachedRecord
  rw [ha, Option.bind_some, record?_live hl]
  rfl

theorem handOver_void {s : State} {c : ChannelId} {st : Strip} {h : Handle} {r : Record} (hv : st.isVoid = true)
    (ha : s.attachedRecord c = some (h, r)) :
    handOver c st s = countVoid h r (s.setChannel c (s.channels[c].closed indStripVoid)) := by
  unfold handOver
  rw [if_pos hv, ha]

theorem handOver_evaluated {s : State} {c : ChannelId} {st : Strip} {h : Handle} {r : Record} (hv : ¬ st.isVoid = true)
    (ha : s.attachedRecord c = some (h, r)) : handOver c st s =
      evaluateStrip h r st.readings (s.setChannel c (s.channels[c].closed indStripEvaluated)) := by
  unfold handOver
  rw [if_neg hv, ha]

/-! ## Messages (R89 to R91, R189) -/

/-- R189: a message of a known kind, by its length. -/
theorem collect_kind {kind : Byte} {n : Nat} (hk : messageLength kind = some n) (start channel : Byte)
    (rest : List Byte) (s : State) : collect (start :: channel :: kind :: rest) s =
      if rest.length + 3 < n then
        { s with receiver := .receiving (start :: channel :: kind :: rest) Config.gapMs }
      else if (start :: channel :: kind :: rest).sum = 0 then takeMessage (start :: channel :: kind :: rest) s
      else s.discardMessage .check := by
  rw [← byteSum_eq]
  unfold collect
  dsimp only
  rw [hk]
  rfl

theorem collect_unknown {kind : Byte} (h1 : kind ≠ 1) (h2 : kind ≠ 2) (h3 : kind ≠ 3) (start channel : Byte)
    (rest : List Byte) (s : State) : collect (start :: channel :: kind :: rest) s = s.discardMessage .kind := by
  unfold collect messageLength
  dsimp only
  rw [if_neg h1, if_neg h2, if_neg h3]

theorem receiveByte_receiving {s : State} {bytes : List Byte} {gap : Nat} (h : s.receiver = .receiving bytes gap)
    (b : Byte) : receiveByte b s = collect (bytes ++ [b]) s := by
  unfold receiveByte
  rw [h]

theorem takeMessage_close (start b : Byte) (k : ChannelId) (s : State) :
    takeMessage [start, byteOf k.val, 3, b] s = takeStripClose k s := by
  simp only [takeMessage, numberOf_channel]

theorem takeMessage_open (start count b : Byte) (k : ChannelId) (s : State) :
    takeMessage [start, byteOf k.val, 1, count, b] s = takeStripOpen k count s := by
  simp only [takeMessage, numberOf_channel]

theorem takeMessage_reading (start i l1 l0 a1 a0 b1 b0 q b : Byte) (k : ChannelId) (s : State) :
    takeMessage [start, byteOf k.val, 2, i, l1, l0, a1, a0, b1, b0, q, b] s =
      takeReading k i (l1 ++ l0) (a1 ++ a0) (b1 ++ b0) q s := by
  simp only [takeMessage, numberOf_channel]

section
variable {s : State} {start channel kind b : Byte} {rest : List Byte} {gap n : Nat}

/-- A byte that does not complete the message restarts the gap timer. -/
theorem exec_innerByte (hp : s.procedure = none) (hr : s.receiver = .receiving (start :: channel :: kind :: rest) gap)
    (hk : messageLength kind = some n) (hn : rest.length + 4 < n) : exec (.receivedByte b) s =
      .next { s with receiver := .receiving (start :: channel :: kind :: (rest ++ [b])) 2 } := by
  have hexec : exec (.receivedByte b) s = .next (receiveByte b s) := congrArg Host.Outcome.next (event_free hp)
  rw [hexec, receiveByte_receiving hr]
  refine congrArg Host.Outcome.next ((collect_kind hk start channel (rest ++ [b]) s).trans (if_pos ?_))
  rw [List.length_append, List.length_singleton]
  omega

/-- The last byte of a message decides between the message and a CHECK discard. -/
theorem exec_lastByte (hp : s.procedure = none) (hr : s.receiver = .receiving (start :: channel :: kind :: rest) gap)
    (hk : messageLength kind = some n) (hn : rest.length + 4 = n) {i : Instr} {t : State}
    (ht : takeMessage (start :: channel :: kind :: (rest ++ [b])) s = t) (hi : exec i s = .next (s.event t)) :
    exec (.receivedByte b) s =
      if (start :: channel :: kind :: (rest ++ [b])).sum = 0 then exec i s else exec (.messageDiscard .check) s := by
  have hexec : exec (.receivedByte b) s = .next (receiveByte b s) := congrArg Host.Outcome.next (event_free hp)
  have hdiscard : exec (.messageDiscard .check) s = .next (s.discardMessage .check) :=
    congrArg Host.Outcome.next (event_free hp)
  have hcollect := collect_kind hk start channel (rest ++ [b]) s
  rw [if_neg (by rw [List.length_append, List.length_singleton]; omega), ht] at hcollect
  rw [hexec, receiveByte_receiving hr, hdiscard, hi, event_free hp]
  exact (congrArg Host.Outcome.next hcollect).trans (apply_ite ..)

end

end Sys2Proof.Machine

namespace Sys2Proof.Proofs
open Sys2Proof Sys2Proof.Machine

/-- Settles O34: a discard by its cause, and the two timers by whether they run. -/
theorem instrumentDiscardsAndStalls : Obligations.InstrumentDiscardsAndStalls := by
  intro s hp discarded
  have hgap : exec .gapTimerExpiry s = .next _ := congrArg Host.Outcome.next (event_free hp)
  have hstall (k : ChannelId) : exec (.inactivityExpiry k) s = .next (s.abandonStrip k .stalled) :=
    congrArg Host.Outcome.next (event_free hp)
  refine ⟨congrArg Host.Outcome.next (event_free hp), congrArg Host.Outcome.next (event_free hp),
    congrArg Host.Outcome.next (event_free hp), fun hr => ?_, fun bytes gap hr => ?_, fun k hs => ?_, fun k hs => ?_⟩
  · rw [hgap, hr]
  · rw [hgap, hr]
    rfl
  · rw [hstall, abandonStrip_eq, hs]
    rfl
  · rw [hstall, abandonStrip_eq, if_pos (Option.isSome_iff_ne_none.mpr hs)]

/-- Settles O31: the first condition that refuses the opening, and the strip it leaves. -/
theorem stripOpenOpensOrRefuses : Obligations.StripOpenOpensOrRefuses := by
  intro s k count hp ch cause
  have hexec : exec (.stripOpen k count) s = .next (openStrip k count.toNat s.hunt) :=
    congrArg Host.Outcome.next (event_free hp)
  have hcause : openRefusal s.hunt k count.toNat = cause := by
    change openRefusal s k count.toNat = cause
    simp only [cause]
    unfold openRefusal
    cases (s.attached k).bind s.record? with
    | none => rfl
    | some r =>
      refine if_congr ?_ rfl (if_congr Iff.rfl rfl (signalRefusal_eq s k Iff.rfl))
      rw [Bool.or_eq_true, Option.isNone_iff_eq_none, List.isEmpty_iff]
  rw [hexec]
  cases hx : cause with
  | none => rw [openStrip_opens (hcause.trans hx)]; rfl
  | some x => rw [openStrip_refused (hcause.trans hx)]; rfl

/-- Settles O32: the reading in sequence, out of sequence, or stray. -/
theorem readingAppendsInSequence : Obligations.ReadingAppendsInSequence := by
  intro s k index L a b quality hp ch lost
  have hexec : exec (.reading k index L a b quality) s = .next (takeReading k index L a b quality s) :=
    congrArg Host.Outcome.next (event_free hp)
  rw [hexec]
  rfl

/-- Settles O33: stray, short, void or evaluated. -/
theorem stripCloseHandsOver : Obligations.StripCloseHandsOver := by
  intro s k hp ch lost
  have hexec : exec (.stripClose k) s = .next (closeStrip k s.hunt) := congrArg Host.Outcome.next (event_free hp)
  refine ⟨fun hs => ?stray, fun st hs hshort => ?short, fun st h r hs hfull ha hl => ?complete⟩
  case stray => rw [hexec, closeStrip_idle (s := s.hunt) hs]; rfl
  case short => rw [hexec, closeStrip_open (s := s.hunt) hs, if_pos hshort]; rfl
  case complete =>
    intro void
    have hrecord : s.hunt.attachedRecord k = some (h, r) := attachedRecord_of (s := s.hunt) ha hl
    have hclose := (closeStrip_open (s := s.hunt) hs).trans (if_neg (by omega))
    refine ⟨fun hv => ?void, fun hv => ?evaluated⟩
    case void =>
      rw [hexec, hclose, handOver_void (decide_eq_true hv) hrecord]
      rfl
    case evaluated =>
      intro after
      rw [hexec, hclose, handOver_evaluated (by simpa [Strip.isVoid] using hv) hrecord]
      unfold evaluateStrip
      rw [settleRecord_eq]
      rfl

/-- Settles O35: the byte hunted for, the bytes that extend a message, and the byte that completes it. -/
theorem receivedByteGathersMessages : Obligations.ReceivedByteGathersMessages := by
  intro s b hp
  have hexec : exec (.receivedByte b) s = .next (receiveByte b s) := congrArg Host.Outcome.next (event_free hp)
  have hdiscard (x : MessageFault) : exec (.messageDiscard x) s = .next (s.discardMessage (causeOfFault x)) :=
    congrArg Host.Outcome.next (event_free hp)
  refine ⟨fun hr => ?hunting, fun start gap hr => ?channel, fun start k gap hr => ?kind, fun start k gap =>
    ⟨fun hr => ?close, fun count hr => ?opening, fun i l1 l0 a1 a0 b1 b0 q hr => ?reading,
      fun kind rest hlen hr => ?extended⟩⟩
  case hunting =>
    rw [hexec]
    unfold receiveByte
    rw [hr]
    rfl
  case channel =>
    rw [hexec, receiveByte_receiving hr, hdiscard]
    exact apply_ite Host.Outcome.next _ _ _
  case kind =>
    rw [hexec, receiveByte_receiving hr, hdiscard]
    split_ifs with hk
    · rcases hk with rfl | rfl | rfl <;> rfl
    · obtain ⟨h1, h2, h3⟩ := by simpa only [not_or] using hk
      exact congrArg Host.Outcome.next (collect_unknown h1 h2 h3 ..)
  case close => exact exec_lastByte (rest := []) (n := 4) hp hr rfl rfl (takeMessage_close ..) rfl
  case opening => exact exec_lastByte (rest := [count]) (n := 5) hp hr rfl rfl (takeMessage_open ..) rfl
  case reading =>
    exact exec_lastByte (rest := [i, l1, l0, a1, a0, b1, b0, q]) (n := 12) hp hr rfl rfl (takeMessage_reading ..) rfl
  case extended =>
    rcases hlen with ⟨rfl, hlen⟩ | ⟨rfl, hlen⟩
    · exact exec_innerByte (n := 5) hp hr rfl (by omega)
    · exact exec_innerByte (n := 12) hp hr rfl (by omega)

end Sys2Proof.Proofs
end

section
/-! The requests of the Verification Unit (06_verification_and_match_state.md). -/
namespace Sys2Proof.Machine

/-! ## SET_PATCHES (R115, R116) -/

theorem setPatches_short {body : List Byte} (h : body.length < 2) (q : Caller) (s : State) :
    setPatches q body s = .refused 1 [.badLength] := by
  rcases body with _ | ⟨_, _ | ⟨_, _⟩⟩
  case cons.cons => simp only [List.length_cons] at h; omega
  all_goals rfl

theorem setPatches_many {n : Byte} (h : 32 < n.toNat) (q : Caller) (hb : Byte) (rest : List Byte) (s : State) :
    setPatches q (hb :: n :: rest) s = .refused 1 [.badValue] := if_pos h

theorem setPatches_misfit {n : Byte} (hn : n.toNat ≤ 32) {rest : List Byte} (h0 : rest.length ≠ 6 * n.toNat)
    (h1 : rest.length ≠ 6 * n.toNat + 1) (q : Caller) (hb : Byte) (s : State) :
    setPatches q (hb :: n :: rest) s = .refused 1 [.badLength] :=
  (if_neg (by omega)).trans (if_pos ⟨h0, h1⟩)

/-- A body with a count has the handle before it. -/
theorem fields_of_count {body : List Byte} {n : Byte} (h : body[1]? = some n) : ∃ hb rest, body = hb :: n :: rest := by
  rcases body with _ | ⟨hb, _ | ⟨m, rest⟩⟩
  case cons.cons => cases h; exact ⟨hb, rest, rfl⟩
  all_goals cases h

/-- The white index follows the 6n bytes of the triples. -/
theorem whiteIndexOf_append {n : Nat} {triples : List Byte} (hlen : triples.length = 6 * n) (white : Option Byte) :
    whiteIndexOf n (triples ++ white.toList) = white.map (·.toNat) := by
  unfold whiteIndexOf
  rw [← hlen, List.getElem?_append_right (le_refl _), Nat.sub_self]
  cases white <;> rfl

theorem whiteIndexBad_iff {n : Nat} {white : Option Byte} :
    whiteIndexBad n (white.map (·.toNat)) = false ↔ ∀ w, white = some w → w.toNat < n := by
  cases white with
  | none => exact ⟨fun _ => nofun, fun _ => rfl⟩
  | some w =>
    exact decide_eq_false_iff_not.trans ⟨fun h _ e => by cases e; exact Nat.lt_of_not_le h,
      fun h => Nat.not_le_of_lt (h w rfl)⟩

/-- R115: a body of n triples, with or without a white index, on a LIVE record. -/
theorem setPatches_live {s : State} {h : Handle} {r : Record} (hl : s.Live h r) (q : Caller) {n : Byte}
    (hn : n.toNat ≤ 32) {triples : List Byte} (hlen : triples.length = 6 * n.toNat) (white : Option Byte) :
    setPatches q (byteOf h.val :: n :: (triples ++ white.toList)) s =
      refuseIf 1 [(.badValue, whiteIndexBad n.toNat (white.map (·.toNat)) ||
          !(triplesOf (patchForm r.kind) triples).all (patchInRange r.kind))]
        (refuseIf 2 [(.wrongKind, r.kind = .display && (white.map (·.toNat)).isSome)]
          (refuseIf 3 [(.notPermitted, !q.canChange r)]
            (.done [byteOf n.toNat, encMatchState .unverified] (storePatches h r
              (triplesOf (patchForm r.kind) triples) (white.map (·.toNat)) s)))) := by
  have hfits : ¬ ((triples ++ white.toList).length ≠ 6 * n.toNat ∧
      (triples ++ white.toList).length ≠ 6 * n.toNat + 1) := by
    rw [List.length_append]
    cases white <;> simp only [Option.toList_none, Option.toList_some, List.length_nil, List.length_singleton] <;> omega
  unfold setPatches
  dsimp only
  rw [if_neg (by omega), if_neg hfits]
  unfold patchesOn
  rw [target_live hl]
  dsimp only
  rw [whiteIndexOf_append hlen, List.take_left' hlen]

/-- R116: the fields of the record after SET_PATCHES. -/
theorem withPatches_eq (r : Record) (ps : List Triple) (white : Option Nat) : r.withPatches ps white = { r with
    data := match r.data with
      | .paper f => .paper { f with whitePatch := white, whiteCandidate := none, measuredWhite := none }
      | .display => .display
    patches := ps, state := .unverified
    passStreak := 0, failStreak := 0, windowStrips := 0, windowFailing := 0 } := by
  rcases r with ⟨data⟩
  cases data <;> rfl

theorem storePatches_eq (h : Handle) (r : Record) (ps : List Triple) (white : Option Nat) (s : State) :
    storePatches h r ps white s = { s with
      records := s.records.set h
        ⟨.live (r.withPatches ps white), s.records[h].pending ||| r.unverifyMask, s.records[h].enabled⟩
      channels := s.channelsChanged h
      slots := s.slotsAfter h (r.withPatches ps white).state.inMatch } := settleAbandon_eq ..

/-! ## SET_NOMINAL_WHITE (R117) -/

theorem nominalOn_refused {white : Option Triple} {t : Triple} (ht : white = some t) (hbad : labInRange t = false)
    (q : Caller) (hb : Byte) (s : State) : nominalOn q hb white s = .refused 1 [.badValue] := by
  unfold nominalOn
  rw [refuseIf_one, ht, Option.map_some, Option.getD_some, hbad]
  rfl

theorem nominalOn_taken {white : Option Triple} (ht : ∀ t, white = some t → labInRange t = true) (q : Caller)
    (hb : Byte) (s : State) : nominalOn q hb white s =
      refuseIf 2 [(.noSuchRecord, missing (s.target hb)), (.wrongKind, notKind .paper (s.target hb))]
        (onRecord s hb q.canChange fun h r => .done [] (storeNominal h r white s)) := by
  have hok : (white.map labInRange).getD true = true := by
    cases white with
    | none => rfl
    | some t => exact ht t rfl
  unfold nominalOn
  rw [refuseIf_one, hok]
  rfl

/-! ## SET_MATCH_SETTINGS (R118 to R120) -/

/-- The nearer limit of a range of natural numbers. -/
theorem clampTo_nat {lo hi : Nat} (h : lo ≤ hi) (v : Nat) : (clampTo lo hi v).toNat = max lo (min hi v) := by
  unfold clampTo
  split_ifs <;> omega

theorem clampSettings_eq (acq loss tol exc limit : Nat) (auto pin force clear : Bool) :
    clampSettings ⟨acq, loss, auto, pin, limit, tol, exc, force, clear⟩ =
      ⟨max 1 (min 4 acq), max 2 (min 4 loss), auto, pin, max 1 (min 5000 limit), max 0 (min 8 tol),
        max 1 (min 255 exc), force, clear⟩ := by
  unfold clampSettings
  rw [← clampTo_nat (lo := 1) (hi := 4) (by decide), ← clampTo_nat (lo := 2) (hi := 4) (by decide),
    ← clampTo_nat (lo := 1) (hi := 5000) (by decide), ← clampTo_nat (lo := 0) (hi := 8) (by decide),
    ← clampTo_nat (lo := 1) (hi := 255) (by decide)]
  rfl

theorem carriedOf_encBool (acq loss pl1 pl0 tol exc wl1 wl0 : Byte) (auto pin force follow clear : Bool) :
    carriedOf acq loss (encBool auto) (encBool pin) pl1 pl0 tol exc (encBool force) wl1 wl0 (encBool follow)
      (encBool clear) = some ⟨⟨acq.toNat, loss.toNat, auto, pin, u16 pl1 pl0, tol.toNat, exc.toNat, force, clear⟩,
        u16 wl1 wl0, follow⟩ := by
  simp only [carriedOf, onOff_encBool]

section
variable {s : State} {q : Caller} {h : Handle} {r : Record} {sent used : CarriedSettings}

theorem settingsOn_refused (hl : s.Live h r) (hused : clampCarried (some r.kind) sent = used) (hmoved : used ≠ sent)
    (hstrict : q.strict = true) : settingsOn q (byteOf h.val) sent s = .refused 1 [.badValue] := by
  unfold settingsOn
  rw [target_live hl, Option.map_some, hused]
  dsimp only
  rw [refuseIf_one, decide_eq_true hmoved, hstrict]
  rfl

theorem settingsOn_taken (hl : s.Live h r) (hused : clampCarried (some r.kind) sent = used)
    (htaken : used = sent ∨ q.strict = false) (ha : q.canChange r = true) :
    settingsOn q (byteOf h.val) sent s =
      if notKind .paper (some (h, r)) && (sent.whiteLimit ≠ 0 || sent.trimFollow) then .refused 2 [.wrongKind]
      else accept (used ≠ sent) (encSettings (r.withSettings used)) (s.putRecord h (r.withSettings used)) := by
  have hpass : (decide (used ≠ sent) && q.strict) = false := by
    rcases htaken with e | e
    · rw [decide_eq_false (not_not.mpr e), Bool.false_and]
    · rw [e, Bool.and_false]
  unfold settingsOn
  dsimp only
  rw [onRecord_allowed hl ha, target_live hl, Option.map_some, hused]
  rw [refuseIf_one, hpass, refuseIf_two]
  rfl

end

/-- R119: the white limit of a DISPLAY record is not clamped. -/
theorem clampCarried_display (c : CarriedSettings) :
    clampCarried (some .display) c = ⟨clampSettings c.settings, c.whiteLimit, c.trimFollow⟩ := rfl

theorem clampCarried_paper (c : CarriedSettings) : clampCarried (some .paper) c =
    ⟨clampSettings c.settings, max 1 (min 2000 c.whiteLimit), c.trimFollow⟩ := by
  rw [← clampTo_nat (lo := 1) (hi := 2000) (by decide)]
  rfl

theorem withSettings_display {r : Record} (hd : r.data = .display) (c : CarriedSettings) : r.withSettings c = { r with
    data := .display, settings := c.settings
    passStreak := 0, failStreak := 0, windowStrips := 0, windowFailing := 0 } := by
  rcases r with ⟨data⟩
  cases hd
  rfl

theorem withSettings_paper {r : Record} {f : PaperFields} (hd : r.data = .paper f) (c : CarriedSettings) :
    r.withSettings c = { r with
      data := .paper { f with whiteLimit := c.whiteLimit, trimFollow := c.trimFollow }, settings := c.settings
      passStreak := 0, failStreak := 0, windowStrips := 0, windowFailing := 0 } := by
  rcases r with ⟨data⟩
  cases hd
  rfl

/-- R181: the outcome of a taken request by whether the values were kept. -/
theorem outcome_of_kept {M P : Prop} [Decidable M] [Decidable P] (h : M ↔ ¬ P) :
    (if decide M = true then OutcomeCode.doneAdjusted else .done) = if P then .done else .doneAdjusted := by
  by_cases hP : P
  · rw [if_neg (by rw [decide_eq_true_eq, h]; exact not_not.mpr hP), if_pos hP]
  · rw [if_pos (by rw [decide_eq_true_eq, h]; exact hP), if_neg hP]

/-! ## REVERIFY, CLEAR_HOLD and READ_COUNTERS (R134 to R136) -/

theorem canCount_on {q : Caller} {r : Record} (h : r.settings.clearOnRead = true) : q.canCount r = q.canChange r :=
  if_pos h

theorem canCount_off {q : Caller} {r : Record} (h : r.settings.clearOnRead = false) : q.canCount r = q.canLookup r :=
  if_neg (Bool.eq_false_iff.mp h)

end Sys2Proof.Machine

namespace Sys2Proof.Proofs
open Sys2Proof Sys2Proof.Machine

/-- Settles O36: the form of the body, the values, the kind, then the record with its new patches. -/
theorem setPatchesReplacesThePatchSet : Obligations.SetPatchesReplacesThePatchSet := by
  refine ⟨fun s c body ht hb => ⟨fun hshort => ?short, fun n hn => ?count⟩,
    fun s c h r n triples white ht hl hlen hmax => ?stored⟩
  case short => exact next_refused ht rfl hb (setPatches_short hshort ..)
  case count =>
    obtain ⟨hb', rest, rfl⟩ := fields_of_count hn
    refine ⟨fun hmany => next_refused ht rfl hb (setPatches_many hmany ..), fun hfew h0 h1 => ?_⟩
    rw [List.length_cons, List.length_cons] at h0 h1
    exact next_refused ht rfl hb (setPatches_misfit hfew (by omega) (by omega) ..)
  case stored =>
    intro body list sound
    have hb : body.length ≤ 200 := by
      cases white <;> simp [body] <;> omega
    have hblock := setPatches_live (s := s.driveFill (5 + body.length)) hl (s.caller c) (n := n) (by omega) hlen white
    rw [refuseIf_one, refuseIf_one, refuseIf_one] at hblock
    have hsound : sound ↔
        ¬ (whiteIndexBad n.toNat (white.map (·.toNat)) || !list.all (patchInRange r.kind)) = true := by
      rw [Bool.not_eq_true, Bool.or_eq_false_iff, whiteIndexBad_iff, Bool.not_eq_false', List.all_eq_true, and_comm]
    refine ⟨fun hbad => ?value, fun hok hd hw => ?kind, fun hok hd hmay => ?done⟩
    case value => exact next_refused ht rfl hb (hblock.trans (if_pos (not_not.mp (mt hsound.mpr hbad))))
    case kind =>
      rw [if_neg (hsound.mp hok), kind_display hd, Option.isSome_map, hw] at hblock
      exact next_refused ht rfl hb hblock
    case done =>
      have hright : (decide (r.kind = .display) && (white.map (·.toNat)).isSome) = false := by
        cases hdata : r.data with
        | paper f => rw [kind_paper hdata]; rfl
        | display => rw [hd hdata, Option.map_none, Option.isSome_none, Bool.and_false]
      rw [if_neg (hsound.mp hok), hright, (canChange_iff s c r).mpr hmay, storePatches_eq, withPatches_eq,
        show byteOf n.toNat = n from BitVec.eq_of_toNat_eq (toNat_byteOf _ n.isLt)] at hblock
      exact next_done ht rfl hb hblock rfl

/-- Settles O37: the value, the kind, then the record with its white replaced. -/
theorem setNominalWhiteClearsTheWhites : Obligations.SetNominalWhiteClearsTheWhites := by
  intro s c h r six ht hl body white
  have hb : body.length ≤ 200 := by rcases six with _ | ⟨_⟩ <;> simp [body]
  have hblock : setNominalWhite (s.caller c) body (s.driveFill (5 + body.length)) =
      nominalOn (s.caller c) (byteOf h.val) white (s.driveFill (5 + body.length)) := by
    rcases six with _ | ⟨_⟩ <;> rfl
  refine ⟨fun ⟨t, hw, hbad⟩ => ?value, fun hok => ⟨fun hd => ?kind, fun f hd hmay => ?done⟩⟩
  case value => exact next_refused ht rfl hb (hblock.trans (nominalOn_refused hw hbad ..))
  case kind =>
    exact next_refused ht rfl hb ((hblock.trans (nominalOn_taken hok ..)).trans
      (onKind_wrong (s := s.driveFill _) hl (by rw [kind_display hd]; nofun) _))
  case done =>
    have hdone := ((hblock.trans (nominalOn_taken hok ..)).trans
      (onKind_right (s := s.driveFill _) hl (kind_paper hd) _)).trans
      (onRecord_allowed (s := s.driveFill _) hl ((canChange_iff s c r).mpr hmay) _)
    unfold storeNominal at hdone
    rw [onPaper_paper hd] at hdone
    exact next_done ht rfl hb hdone rfl

/-- Settles O38: the settings at their nearer limits, judged for a strict client, on a record of either kind. -/
theorem setMatchSettingsReplacesAll : Obligations.SetMatchSettingsReplacesAll := by
  intro s c h r acq loss pl1 pl0 tol exc wl1 wl0 auto pin force follow clear ht hl hmay near kept exact frame cleared
  let sent : CarriedSettings :=
    ⟨⟨acq.toNat, loss.toNat, auto, pin, u16 pl1 pl0, tol.toNat, exc.toNat, force, clear⟩, u16 wl1 wl0, follow⟩
  have hkept : clampSettings sent.settings = kept := clampSettings_eq ..
  have ha : (s.caller c).canChange r = true := (canChange_iff s c r).mpr hmay
  have hblock : setMatchSettings (s.caller c) [byteOf h.val, acq, loss, encBool auto, encBool pin, pl1, pl0, tol, exc,
      encBool force, wl1, wl0, encBool follow, encBool clear] (s.driveFill 19) =
        settingsOn (s.caller c) (byteOf h.val) sent (s.driveFill 19) := by
    simp only [setMatchSettings, carriedOf_encBool]
    rfl
  refine ⟨fun hd => ?display, fun f hd => ?paper⟩
  case display =>
    have hused : clampCarried (some r.kind) sent = ⟨kept, u16 wl1 wl0, follow⟩ := by
      rw [kind_display hd, clampCarried_display, hkept]
    have hmoved : (⟨kept, u16 wl1 wl0, follow⟩ : CarriedSettings) ≠ sent ↔ ¬ exact := by
      simp only [sent, exact, ne_eq, CarriedSettings.mk.injEq, and_true]
    have hkind : notKind .paper (some (h, r)) = true := decide_eq_true (by rw [kind_display hd]; nofun)
    refine ⟨fun hne hstrict => exec_refused ht rfl (hblock.trans
      (settingsOn_refused (s := s.driveFill 19) hl hused (hmoved.mpr hne) hstrict)), fun htaken => ?_⟩
    have hverdict := hblock.trans (settingsOn_taken (s := s.driveFill 19) hl hused
      (htaken.imp_left fun e => not_not.mp (mt hmoved.mp (not_not.mpr e))) ha)
    rw [hkind, Bool.true_and] at hverdict
    refine ⟨fun hcarried => exec_refused ht rfl (hverdict.trans (if_pos ?_)), fun hlimit hfollow => ?_⟩
    · simpa only [Bool.or_eq_true, decide_eq_true_eq] using hcarried
    · rw [if_neg (by simp [sent, hlimit, hfollow]), withSettings_display hd] at hverdict
      exact exec_accept (n := 14) ht rfl hverdict (by rw [outcome_of_kept hmoved]; rfl)
  case paper =>
    intro limit data
    have hused : clampCarried (some r.kind) sent = ⟨kept, limit, follow⟩ := by
      rw [kind_paper hd, clampCarried_paper, hkept]
    have hmoved : (⟨kept, limit, follow⟩ : CarriedSettings) ≠ sent ↔ ¬ (exact ∧ limit = u16 wl1 wl0) := by
      simp only [sent, exact, ne_eq, CarriedSettings.mk.injEq, and_true]
    have hkind : notKind .paper (some (h, r)) = false := decide_eq_false (not_not.mpr (kind_paper hd))
    refine ⟨fun hne hstrict => exec_refused ht rfl (hblock.trans
      (settingsOn_refused (s := s.driveFill 19) hl hused (hmoved.mpr hne) hstrict)), fun htaken => ?_⟩
    have hverdict := hblock.trans (settingsOn_taken (s := s.driveFill 19) hl hused
      (htaken.imp_left fun e => not_not.mp (mt hmoved.mp (not_not.mpr e))) ha)
    rw [hkind, Bool.false_and, if_neg Bool.false_ne_true, withSettings_paper hd] at hverdict
    exact exec_accept (n := 14) ht rfl hverdict (by rw [outcome_of_kept hmoved]; rfl)

/-- Settles O39: each request by the access it needs. -/
theorem reverifyClearHoldReadCounters : Obligations.ReverifyClearHoldReadCounters := by
  intro s c h r ht hl
  have hchange := canChange_iff s c r
  have hlookup := canLookup_iff s c r
  refine ⟨fun hnot => ?_, fun hmay => ?_, fun hmay => ?_, fun hnot => ?_, fun hclear hmay => ?_, fun hclear hmay => ?_,
    fun hnot => ?_⟩
  · exact exec_refused (run := reverify) (body := [byteOf h.val]) ht rfl
      (onRecord_denied (s := s.driveFill 6) hl (mt hchange.mp hnot) _)
  · have hblock : reverify (s.caller c) [byteOf h.val] (s.driveFill 6) = _ :=
      onRecord_allowed (s := s.driveFill 6) hl (hchange.mpr hmay) _
    unfold reverifyRecord at hblock
    rw [settleRecord_eq] at hblock
    exact exec_done (n := 1) ht rfl hblock rfl
  · have hblock : clearHold (s.caller c) [byteOf h.val] (s.driveFill 6) = _ :=
      onRecord_allowed (s := s.driveFill 6) hl (hchange.mpr hmay) _
    refine exec_done (n := 1) ht rfl hblock ?_
    cases r.hold <;> rfl
  · exact exec_refused (run := clearHold) (body := [byteOf h.val]) ht rfl
      (onRecord_denied (s := s.driveFill 6) hl (mt hchange.mp hnot) _)
  · have hblock : readCounters (s.caller c) [byteOf h.val] (s.driveFill 6) = _ :=
      onRecord_allowed (s := s.driveFill 6) hl ((canCount_on hclear).trans (hchange.mpr hmay)) _
    rw [if_pos hclear] at hblock
    exact exec_done (n := 1) ht rfl hblock rfl
  · have hblock : readCounters (s.caller c) [byteOf h.val] (s.driveFill 6) = _ :=
      onRecord_allowed (s := s.driveFill 6) hl ((canCount_off hclear).trans (hlookup.mpr hmay)) _
    rw [if_neg (Bool.eq_false_iff.mp hclear)] at hblock
    exact exec_done (n := 1) ht rfl hblock rfl
  · have hdenied : ¬ (s.caller c).canCount r = true := by
      rcases hnot with ⟨hclear, hnot⟩ | ⟨hclear, hnot⟩
      · rw [canCount_on hclear]
        exact mt hchange.mp hnot
      · rw [canCount_off hclear]
        exact mt hlookup.mp hnot
    exact exec_refused (run := readCounters) (body := [byteOf h.val]) ht rfl
      (onRecord_denied (s := s.driveFill 6) hl hdenied _)

end Sys2Proof.Proofs
end

section
/-! The evaluation of a strip, stage by stage (06_verification_and_match_state.md, R121 to R132). -/
namespace Sys2Proof.Machine

/-! ## What stages 4 to 7 keep -/

/-- The fields of a record that only the counters, the hold and the host's requests change. -/
def Record.tally (r : Record) : (ClientId × Byte × Byte × List Triple × Settings) × Nat × Nat × Nat × Option Hold :=
  ((r.owner, r.change, r.lookup, r.patches, r.settings), r.voided, r.passed, r.failed, r.hold)

theorem setMatch_tally (r : Record) (m : MatchState) : (r.setMatch m).tally = r.tally := by
  unfold Record.setMatch
  split <;> rfl

theorem stageWindow_tally (failures : Nat) (r : Record) : (stageWindow failures r).1.tally = r.tally := by
  unfold stageWindow judgeWindow
  split_ifs
  · rfl
  · exact setMatch_tally r .lost
  · rfl
  · rfl
  · rfl

theorem climb_tally (r : Record) : (climb r).tally = r.tally := by
  unfold climb
  split
  · exact setMatch_tally ..
  · rfl

theorem stageMatch_tally (pass : Bool) (r : Record) : (stageMatch pass r).tally = r.tally := by
  unfold stageMatch
  split
  · exact climb_tally r
  · rfl
  · rfl
  · split
    · rfl
    · exact setMatch_tally ..
  · exact setMatch_tally ..
  · split
    · exact setMatch_tally ..
    · rfl
  · split
    · exact climb_tally r
    · rfl
  · rfl

theorem stageWhite_tally (readings : List Reading) (r : Record) : (stageWhite readings r).1.tally = r.tally := by
  unfold stageWhite
  split
  · rfl
  · split
    · rfl
    · rw [whiteStep_eq]
      split_ifs
      · rfl
      · exact setMatch_tally (Record.withWhite ..) .lost
      · rfl
      · rfl

theorem stageTrim_tally (pass : Bool) (js : List Judged) (r : Record) : (stageTrim pass js r).tally = r.tally := by
  unfold stageTrim
  split
  · rfl
  · split <;> rfl

/-- R123, R124: the counters and the hold of an evaluation are those of stages 2 and 3. -/
theorem evaluation_tally (ns : Nodes) (readings : List Reading) (r : Record) :
    (evaluation ns readings r).1.tally = (stageHold (stripPasses r (judgePatches r ns readings))
      (judgePatches r ns readings) (stageCounters (stripPasses r (judgePatches r ns readings)) r)).1.tally := by
  rw [evaluation_stages]
  exact (stageTrim_tally ..).trans <| (stageWhite_tally ..).trans <| (stageMatch_tally ..).trans (stageWindow_tally ..)

/-! ## The indications of each stage (R132) -/

/-- An indication outside the class of a set is not in the set. -/
theorem InClass.and_other {members x b : Byte} (h : InClass members x) (hb : members &&& b = 0) : x &&& b = 0 := by
  unfold InClass at h
  have hx : x &&& members = x := by
    have hsplit : x &&& (members ||| ~~~members) = x := by rw [BitVec.or_not_self, BitVec.and_allOnes]
    rw [BitVec.and_or_distrib_left, h] at hsplit
    exact BitVec.or_zero.symm.trans hsplit
  rw [← hx, BitVec.and_assoc, hb]
  exact BitVec.and_zero

theorem stageHold_class (pass : Bool) (js : List Judged) (r : Record) : InClass 0x08 (stageHold pass js r).2 := by
  unfold stageHold
  split
  · exact inClass_zero _
  · exact (show InClass 0x08 indHoldCaptured from rfl)

theorem stageWindow_class (failures : Nat) (r : Record) : InClass 0x02 (stageWindow failures r).2 := by
  unfold stageWindow judgeWindow
  split_ifs
  · exact inClass_zero _
  · exact (show InClass 0x02 indExcessive from rfl)
  · exact (show InClass 0x02 indExcessive from rfl)
  · exact inClass_zero _
  · exact inClass_zero _

theorem stageWhite_class (readings : List Reading) (r : Record) : InClass 0x14 (stageWhite readings r).2 := by
  unfold stageWhite
  split
  · exact inClass_zero _
  · split
    · exact inClass_zero _
    · rw [whiteStep_eq]
      split_ifs
      · exact (show InClass 0x14 0x14 from rfl)
      · exact (show InClass 0x14 0x14 from rfl)
      · exact (show InClass 0x14 0x10 from rfl)
      · exact inClass_zero _

/-- R124: HOLD_CAPTURED comes of stage 3 alone. -/
theorem evaluation_holdCaptured (ns : Nodes) (readings : List Reading) (r : Record) :
    (evaluation ns readings r).2 &&& 0x08 = (stageHold (stripPasses r (judgePatches r ns readings))
      (judgePatches r ns readings) (stageCounters (stripPasses r (judgePatches r ns readings)) r)).2 &&& 0x08 := by
  rw [evaluation_stages]
  rw [or_and_other (by split <;> rfl), or_and_other ((stageWhite_class ..).and_other rfl),
    or_and_other ((stageWindow_class ..).and_other rfl)]

/-- R132: MATCH_CHANGED exactly when the state at the end differs. -/
theorem evaluation_matchChanged (ns : Nodes) (readings : List Reading) (r : Record) :
    (evaluation ns readings r).2 &&& 0x01 ≠ 0 ↔ (evaluation ns readings r).1.state ≠ r.state := by
  rw [evaluation_stages]
  dsimp only
  split
  · next h =>
    rw [or_and_other (by rfl), or_and_other ((stageWhite_class ..).and_other rfl),
      or_and_other ((stageWindow_class ..).and_other rfl), (stageHold_class ..).and_other rfl]
    exact ⟨fun e => absurd rfl e, fun e => absurd h e⟩
  · next h => exact ⟨fun _ => h, fun _ => or_and_own (by decide)⟩

/-! ## The hold (R124) -/

theorem stageHold_kept {pass : Bool} {r : Record} (h : pass = true ∨ r.hold.isSome = true) (js : List Judged) :
    stageHold pass js r = (r, 0) := by
  unfold stageHold
  rw [if_pos (Bool.or_eq_true_iff.mpr h)]

theorem stageHold_captures {r : Record} (h : r.hold = none) (js : List Judged) :
    stageHold false js r = ({ r with hold := worst js }, 0x08) := by
  unfold stageHold
  rw [h]
  rfl

theorem stageHold_eq (pass : Bool) (js : List Judged) (r : Record) :
    (stageHold pass js r).1 = { r with hold := (stageHold pass js r).1.hold } := by
  unfold stageHold
  split <;> rfl

theorem stageCounters_eq (pass : Bool) (r : Record) : stageCounters pass r = { r with
    passed := if pass then min (r.passed + 1) 65535 else r.passed
    failed := if pass then r.failed else min (r.failed + 1) 65535 } := by
  cases pass <;> rfl

/-- Of a list in patch order some judgement is the largest, at the lowest patch where it occurs. -/
theorem exists_first_worst {js : List Judged} (hne : js ≠ []) (order : js.Pairwise fun j k => j.patch < k.patch) :
    ∃ j ∈ js, ∀ k ∈ js, k.deviation ≤ j.deviation ∧ (k.deviation = j.deviation → j.patch ≤ k.patch) := by
  induction js with
  | nil => exact absurd rfl hne
  | cons j js ih =>
    rw [List.pairwise_cons] at order
    obtain ⟨hfirst, horder⟩ := order
    by_cases hjs : js = []
    · exact ⟨j, List.mem_cons_self, fun k hk => by rw [hjs, List.mem_singleton] at hk; simp [hk]⟩
    · obtain ⟨m, hm, htop⟩ := ih hjs horder
      have hjm := hfirst m hm
      by_cases hle : m.deviation ≤ j.deviation
      · refine ⟨j, List.mem_cons_self, fun k hk => ?_⟩
        rcases List.mem_cons.mp hk with rfl | hk
        · exact ⟨le_refl _, fun _ => le_refl _⟩
        · exact ⟨(htop k hk).1.trans hle, fun _ => (hfirst k hk).le⟩
      · refine ⟨m, List.mem_cons_of_mem _ hm, fun k hk => ?_⟩
        rcases List.mem_cons.mp hk with rfl | hk
        · exact ⟨by omega, fun e => by omega⟩
        · exact htop k hk

/-! ## The match step (R125 to R127) -/

theorem setMatch_eq {r : Record} {m : MatchState} (h : m ≠ r.state) : r.setMatch m = { r with
    state := m
    passStreak := 0
    failStreak := if m = .suspect then 1 else 0
    windowStrips := if m.inMatch = r.state.inMatch then r.windowStrips else 0
    windowFailing := if m.inMatch = r.state.inMatch then r.windowFailing else 0 } := if_neg h

theorem setMatch_same {r : Record} {m : MatchState} (h : m = r.state) : r.setMatch m = r := if_pos h

/-- R127: a change into or out of the in-match states clears the window. -/
theorem setMatch_crosses {r : Record} {m : MatchState} (h : m.inMatch ≠ r.state.inMatch) (hm : m ≠ .suspect) :
    r.setMatch m = { r with
      state := m, passStreak := 0, failStreak := 0, windowStrips := 0, windowFailing := 0 } := by
  rw [setMatch_eq (fun e => h (congrArg _ e)), if_neg h, if_neg h, if_neg hm]

theorem climb_eq {r : Record} (h : r.state.inMatch = false) : climb r =
    if r.settings.acquire ≤ r.passStreak + 1 then
      { r with state := .matched, passStreak := 0, failStreak := 0, windowStrips := 0, windowFailing := 0 }
    else { r with passStreak := r.passStreak + 1 } := by
  unfold climb
  rw [setMatch_crosses (m := .matched) (by rw [h]; nofun) nofun]

/-! ## The white stage (R129, R130) -/

theorem confirmsWhite_iff {f : PaperFields} {w : Reading} : confirmsWhite f w = true ↔
    w.good = true ∧ ∃ k, f.whiteCandidate = some k ∧
      |w.lab.x - k.x| ≤ 50 ∧ |w.lab.y - k.y| ≤ 50 ∧ |w.lab.z - k.z| ≤ 50 := by
  have habs (v : Int) : v.natAbs ≤ Config.whiteAgreement ↔ |v| ≤ 50 := by
    rw [Int.abs_eq_natAbs]
    exact Int.ofNat_le.symm
  unfold confirmsWhite
  cases hk : f.whiteCandidate with
  | none => exact ⟨nofun, fun ⟨_, _, e, _⟩ => nomatch e⟩
  | some k =>
    dsimp only [whitesAgree]
    simp only [Bool.and_eq_true, decide_eq_true_eq, habs, and_assoc, Option.some.injEq, exists_eq_left']

theorem wrongMedia_iff {f : PaperFields} {white : Triple} : wrongMedia f white = true ↔
    ∃ k, f.nominalWhite = some k ∧ f.whiteLimit < deviation white k := by
  unfold wrongMedia
  cases hk : f.nominalWhite with
  | none => exact ⟨nofun, fun ⟨_, e, _⟩ => nomatch e⟩
  | some k => exact decide_eq_true_iff.trans ⟨fun h => ⟨k, rfl, h⟩, fun ⟨_, e, h⟩ => by cases e; exact h⟩

theorem stageWhite_absent {r : Record} {f : PaperFields} (hd : r.data = .paper f) (hw : f.whitePatch = none)
    (readings : List Reading) : stageWhite readings r = (r, 0) := by
  unfold stageWhite
  rw [hd]
  dsimp only
  rw [hw]
  rfl

theorem stageWhite_present {r : Record} {f : PaperFields} (hd : r.data = .paper f) {n : Nat}
    (hw : f.whitePatch = some n) {readings : List Reading} {w : Reading} (hr : readings[n]? = some w) :
    stageWhite readings r = whiteStep f w r := by
  unfold stageWhite
  rw [hd]
  dsimp only
  rw [hw, Option.bind_some, hr]

theorem stageTrim_paper {r : Record} {f : PaperFields} (hd : r.data = .paper f) (pass : Bool) (js : List Judged) :
    stageTrim pass js r = if f.trimFollow && pass && r.state = .matched then
      { r with data := .paper { f with
          trim := { f.trim with offL := clampTo (-500) 500 (f.trim.offL + roundDiv (meanError js) 4) } } }
      else r := by
  unfold stageTrim
  rw [hd]

end Sys2Proof.Machine

namespace Sys2Proof.Proofs
open Sys2Proof Sys2Proof.Machine

/-- Settles O40: stages 2 and 3 set the counters and the hold, and no later stage touches what the host owns. -/
theorem evaluationCountsAndHolds : Obligations.EvaluationCountsAndHolds := by
  intro ns readings r js fails after
  have hpass : stripPasses r js = true ↔ ¬ fails := decide_eq_true_iff.trans Nat.not_lt.symm
  have hfails (h : fails) : stripPasses r js = false := Bool.eq_false_iff.mpr fun e => hpass.mp e h
  obtain ⟨hkey, hbank⟩ := evaluation_key ns readings r
  have hcaptured := evaluation_holdCaptured ns readings r
  have htally := evaluation_tally ns readings r
  rw [stageHold_eq, stageCounters_eq] at htally
  simp only [Record.tally, Prod.mk.injEq] at htally
  obtain ⟨⟨howner, hchange, hlookup, hpatches, hsettings⟩, hvoided, hpassed, hfailed, hhold⟩ := htally
  rw [← stageCounters_eq] at hhold
  have hcounted : (stageCounters (stripPasses r js) r).hold = r.hold := by rw [stageCounters_eq]
  refine ⟨fun hf => ?failed, fun hf => ?passed, fun hkept => ?kept, fun hnone hf => ?captured,
    evaluation_matchChanged .., hkey, howner, hchange, hlookup, hbank, hpatches, hsettings, hvoided⟩
  case failed =>
    rw [hfails hf] at hfailed hpassed
    exact ⟨hfailed, hpassed⟩
  case passed =>
    rw [hpass.mpr hf] at hfailed hpassed
    exact ⟨hpassed, hfailed⟩
  case kept =>
    rw [stageHold_kept ((hkept.imp (fun e => by rwa [hcounted]) hpass.mpr).symm)] at hhold hcaptured
    exact ⟨hhold.trans hcounted, hcaptured.trans BitVec.zero_and⟩
  case captured =>
    obtain ⟨k, hk, hlarge⟩ := List.countP_pos_iff.mp (Nat.lt_of_le_of_lt (Nat.zero_le _) hf)
    obtain ⟨j, hj, htop⟩ := exists_first_worst (List.ne_nil_of_mem hk) (judgePatches_sorted r ns readings)
    rw [hfails hf] at hcounted hhold hcaptured
    rw [stageHold_captures (hcounted.trans hnone)] at hhold hcaptured
    refine ⟨fun e => absurd (hcaptured.symm.trans e) (show (0x08 : Byte) &&& 0x08 ≠ 0 by decide),
      ⟨j.deviation, j.patch⟩, hhold.trans (worst_first hj htop (judgePatches_sorted r ns readings)), ?_,
      ⟨j, hj, rfl, rfl⟩, htop⟩
    exact Nat.lt_of_lt_of_le (of_decide_eq_true hlarge) (htop k hk).1

/-- Settles O41: each stage by its rule. -/
theorem evaluationStagesFollowTheirTables : Obligations.EvaluationStagesFollowTheirTables := by
  refine ⟨fun _ _ _ => rfl, fun ns readings r => ⟨judgePatches_sorted .., fun j => mem_judgePatches⟩,
    fun pass js r => ⟨fun h => stageHold_kept h js, ?hold⟩, fun failures r hr => ?window, fun failures r hr => ?skipped,
    fun r => ?step, fun r f readings js pass hd => ⟨fun hw => stageWhite_absent hd hw readings, ?white, ?trim⟩⟩
  case hold =>
    rintro rfl hnone j hj htop horder
    rw [stageHold_captures hnone, worst_first hj htop horder]
  case window =>
    have hskip : ¬ (!r.state.inMatch) = true := by rw [hr]; nofun
    unfold stageWindow
    rw [if_neg hskip]
    refine ⟨fun h => if_neg (Nat.not_le.mpr h), fun h hless => (if_pos h).trans ?_, fun h hmore => (if_pos h).trans ?_⟩
    · unfold judgeWindow
      rw [if_neg (Nat.not_le.mpr hless)]
    · unfold judgeWindow
      rw [if_pos hmore, setMatch_crosses (m := .lost) (by rw [hr]; nofun) nofun]
      refine congrArg (Prod.mk · _) (if_congr ?_ rfl rfl)
      rw [Bool.and_eq_true, Bool.not_eq_true']
  case skipped =>
    unfold stageWindow
    rw [hr]
    rfl
  case step =>
    intro matched climbed
    refine ⟨fun hs => ?_, fun hs => ?_, fun hs => ?_, fun hs => ?_⟩ <;> unfold stageMatch <;> rw [hs]
    · exact ⟨climb_eq (by rw [hs]; rfl), rfl⟩
    · exact ⟨if_congr Iff.rfl (climb_eq (by rw [hs]; rfl)) rfl, rfl⟩
    · refine ⟨rfl, if_congr Iff.rfl rfl ?_⟩
      rw [setMatch_eq (by rw [hs]; nofun), hs]
      rfl
    · refine ⟨?_, if_congr Iff.rfl (setMatch_crosses (m := .lost) (by rw [hs]; nofun) nofun) rfl⟩
      dsimp only
      rw [setMatch_eq (by rw [hs]; nofun), hs]
      rfl
  case white =>
    intro n w hw hr candidate agrees wrong
    have hagrees : confirmsWhite f w = true ↔ agrees := confirmsWhite_iff
    have hwrong : wrongMedia f w.lab = true ↔ wrong := wrongMedia_iff
    rw [stageWhite_present hd hw hr, whiteStep_eq]
    refine ⟨fun hno => if_neg (mt hagrees.mp hno), fun hyes => ?_⟩
    intro data
    rw [if_pos (hagrees.mpr hyes)]
    refine ⟨fun hno => if_neg (mt hwrong.mp hno), fun hmedia hkept => ?_, fun hmedia hpinned hstate => ?_⟩
    · rw [if_pos (hwrong.mpr hmedia)]
      rcases hkept with e | e
      · rw [if_pos e]; rfl
      · rw [setMatch_same (r := r.withWhite f w) e.symm, ite_self]; rfl
    · rw [if_pos (hwrong.mpr hmedia), if_neg (Bool.eq_false_iff.mp hpinned),
        setMatch_eq (r := r.withWhite f w) (Ne.symm hstate)]
      exact ⟨_, rfl, rfl, rfl, rfl, rfl⟩
  case trim =>
    rw [stageTrim_paper hd]
    refine if_congr ?_ rfl rfl
    rw [Bool.and_eq_true, Bool.and_eq_true, decide_eq_true_eq, and_assoc]

end Sys2Proof.Proofs
end

section
/-! Printer slots and proof-valid lines (07_printer_slots_and_proof_valid_lines.md). -/
namespace Sys2Proof.Machine

/-! ## The line machine (R141, R143) -/

theorem noteOutput_eq (old new : PrinterSlot) : old.noteOutput new =
    { new with pending := if old.output = new.output then new.pending else new.pending ||| 0x01 } := by
  unfold PrinterSlot.noteOutput
  split <;> rfl

theorem edge_rise {p : PrinterSlot} (h : p.override = .auto) :
    p.edge false true = p.noteOutput { p with line := p.line.rise p.t1 } := by
  unfold PrinterSlot.edge
  rw [h]
  rfl

theorem edge_fall {p : PrinterSlot} (h : p.override = .auto) :
    p.edge true false = p.noteOutput { p with line := p.line.fall p.t2 } := by
  unfold PrinterSlot.edge
  rw [h]
  rfl

/-- R139: the line output by override and line state. -/
def highOf : Override → LineState → Bool
  | .forceOn, _ => true
  | .forceOff, _ => false
  | .auto, .on => true
  | .auto, .releasing _ => true
  | .auto, .off => false
  | .auto, .arming _ => false

theorem output_eq (p : PrinterSlot) : p.output = highOf p.override p.line := by
  rcases p with ⟨paper, override, t1, t2, line⟩
  cases override with
  | forceOn => rfl
  | forceOff => rfl
  | auto => cases line <;> rfl

/-- R143: in AUTO a change of the line state latches LINE_CHANGED when the output differs. -/
theorem noteOutput_line {p : PrinterSlot} (h : p.override = .auto) (line : LineState) :
    p.noteOutput { p with line := line } = { p with
      line := line, pending := if highOf .auto p.line = highOf .auto line then p.pending else p.pending ||| 0x01 } := by
  rw [noteOutput_eq, output_eq, output_eq, h]

theorem expire_frozen {p : PrinterSlot} (h : p.override ≠ .auto) : p.expire = p := by
  unfold PrinterSlot.expire
  cases ho : p.override with
  | auto => exact absurd ho h
  | forceOn => rfl
  | forceOff => rfl

theorem expire_stopped {p : PrinterSlot} (h : p.line = .off ∨ p.line = .on) : p.expire = p := by
  unfold PrinterSlot.expire
  rcases h with e | e <;> rw [e] <;> cases p.override <;> rfl

theorem expire_arming {p : PrinterSlot} (ho : p.override = .auto) {t : Nat} (hl : p.line = .arming t) :
    p.expire = { p with line := .on, pending := p.pending ||| 0x01 } := by
  have hexpire : p.expire = p.noteOutput { p with line := .on } := by
    rcases p with ⟨paper, override, t1, t2, line⟩
    cases ho
    cases hl
    rfl
  rw [hexpire, noteOutput_line ho, hl]
  rfl

theorem expire_releasing {p : PrinterSlot} (ho : p.override = .auto) {t : Nat} (hl : p.line = .releasing t) :
    p.expire = { p with line := .off, pending := p.pending ||| 0x01 } := by
  have hexpire : p.expire = p.noteOutput { p with line := .off } := by
    rcases p with ⟨paper, override, t1, t2, line⟩
    cases ho
    cases hl
    rfl
  rw [hexpire, noteOutput_line ho, hl]
  rfl

theorem exec_lineTimerExpiry {s : State} (hp : s.procedure = none) (n : SlotId) :
    exec (.lineTimerExpiry n) s = .next (s.setSlot n s.slots[n].expire) :=
  congrArg Host.Outcome.next (event_free hp)

/-! ## SET_SLOT_PAPER (R144, R145) -/

/-- The condition a slot with this active paper has. -/
def State.conditionOf (s : State) (paper : Option Handle) : Bool :=
  ((paper.bind s.record?).map fun r => r.state.inMatch).getD false

theorem lineCondition_setSlot (s : State) (n k : SlotId) (x : PrinterSlot) :
    (s.setSlot n x).lineCondition k = if n = k then s.conditionOf x.paper else s.lineCondition k := by
  rw [lineCondition_eq, lineCondition_eq, setSlot_slots, getElem_set_fin]
  split <;> rfl

/-- R145: the paper is replaced and the slot alone re-evaluates its condition. -/
theorem assignPaper_eq (n : SlotId) (paper : Option Handle) (s : State) : assignPaper n paper s = { s with
    slots := s.slots.set n ({ s.slots[n] with paper := paper }.edge (s.lineCondition n) (s.conditionOf paper))
    channels := if s.channels[headOf n].strip.isSome then
        s.channels.set (headOf n) { s.channels[headOf n] with
          strip := none, lastAbandon := some .changed, pending := s.channels[headOf n].pending ||| 0x04 }
      else s.channels } := by
  let paperSet : State := s.setSlot n { s.slots[n] with paper := paper }
  have hslots : (s.settleLines paperSet).slots =
      s.slots.set n ({ s.slots[n] with paper := paper }.edge (s.lineCondition n) (s.conditionOf paper)) := by
    refine vector_ext_fin fun k => ?_
    rw [settleLines_slot, lineCondition_setSlot, getElem_set_fin, setSlot_slots, getElem_set_fin]
    split
    · next e => rw [e]
    · exact edge_same ..
  have hassign : assignPaper n paper s = { s.settleLines paperSet with
      channels := (paperSet.abandonStrip (headOf n) .changed).channels } := rfl
  rw [hassign, abandonStrip_eq, ← hslots]
  rfl

theorem assigned_eq (n : SlotId) (paper : Option Handle) (s : State) : assigned n paper s = .done
    [encNumber paper,
      encLine ({ s.slots[n] with paper := paper }.edge (s.lineCondition n) (s.conditionOf paper)).line]
    { s with
      slots := s.slots.set n ({ s.slots[n] with paper := paper }.edge (s.lineCondition n) (s.conditionOf paper))
      channels := if s.channels[headOf n].strip.isSome then
          s.channels.set (headOf n) { s.channels[headOf n] with
            strip := none, lastAbandon := some .changed, pending := s.channels[headOf n].pending ||| 0x04 }
        else s.channels } := by
  unfold assigned
  rw [assignPaper_eq]
  dsimp only
  rw [getElem_set_fin, if_pos rfl]

theorem paperElsewhere_iff {s : State} {n : SlotId} {h : Handle} :
    s.paperElsewhere n h = true ↔ ∃ k : SlotId, k ≠ n ∧ s.slots[k].paper = some h := by
  unfold State.paperElsewhere
  simp only [List.any_eq_true, List.mem_finRange, true_and, Bool.and_eq_true, decide_eq_true_eq]

/-- R144: a LIVE record as a slot's paper, for an admin client. -/
theorem setSlotPaper_live {s : State} {h : Handle} {r : Record} (hl : s.Live h r) {q : Caller} (ha : q.admin = true)
    (n : SlotId) : setSlotPaper q [byteOf n.val, byteOf h.val] s =
      if r.kind ≠ .paper then .refused 2 [.wrongKind]
      else if s.paperElsewhere n h then .refused 4 [.inUse] else assigned n (some h) s := by
  unfold setSlotPaper
  dsimp only
  rw [refuseIf_three, target_live hl, onUnit_allowed (numberOf_slot n) ha, numberOf_slot]
  dsimp only
  rw [refuseIf_one]
  by_cases hk : r.kind = .paper
  · rw [if_neg (not_not.mpr hk), show notKind .paper (some (h, r)) = false from decide_eq_false (not_not.mpr hk)]
    rfl
  · rw [if_pos hk, show notKind .paper (some (h, r)) = true from decide_eq_true hk]
    rfl

/-! ## SET_SLOT_LINE (R146) -/

/-- R146: the line state after the request, with T1 and the line condition. -/
def PrinterSlot.lineAfter (p : PrinterSlot) (o : Override) (t1 : Nat) (condition : Bool) : LineState :=
  match o, p.override with
  | .auto, .auto => p.line
  | .auto, _ => if condition then (if t1 = 0 then .on else .arming (t1 * 10)) else .off
  | _, _ => .off

theorem setLine_eq (p : PrinterSlot) (o : Override) (t1 t2 : Nat) (condition : Bool) :
    p.setLine o t1 t2 condition =
      p.noteOutput { p with override := o, t1 := t1, t2 := t2, line := p.lineAfter o t1 condition } := by
  rcases p with ⟨paper, override⟩
  cases o with
  | forceOn => rfl
  | forceOff => rfl
  | auto => cases override <;> rfl

/-- R146: a delay above its limit is clamped. -/
theorem delays_clamped (t1 t2 : Nat) : (decide (clampDelay t1 ≠ t1) || decide (clampDelay t2 ≠ t2)) =
    !decide (t1 ≤ 6000 ∧ t2 ≤ 6000) := by
  unfold clampDelay
  rw [← Bool.decide_or, ← decide_not]
  exact decide_eq_decide.mpr (by change min t1 6000 ≠ t1 ∨ min t2 6000 ≠ t2 ↔ _; omega)

end Sys2Proof.Machine

namespace Sys2Proof.Proofs
open Sys2Proof Sys2Proof.Machine

/-- Settles O42: the edges in AUTO, the frozen line, and the timer by whether it runs. -/
theorem lineMachineFollowsTheTable : Obligations.LineMachineFollowsTheTable := by
  intro p s n
  refine ⟨fun ho => ⟨edge_frozen ho .., edge_frozen ho ..⟩, edge_same p,
    fun ho => ⟨fun hl => ?off, fun t hl => ?releasing, fun t hl => ?arming, fun hl => ?on⟩,
    fun hp hs => ⟨fun ho t => ⟨fun hl => ?armed, fun hl => ?released⟩, fun hstill => ?still⟩⟩
  case off =>
    rw [edge_rise ho, noteOutput_line ho, hl]
    by_cases h : p.t1 = 0
    · rw [if_pos h, LineState.rise, if_pos h]
      rfl
    · rw [if_neg h, LineState.rise, if_neg h]
      rfl
  case releasing => rw [edge_rise ho, noteOutput_line ho, hl]; rfl
  case arming => rw [edge_fall ho, noteOutput_line ho, hl]; rfl
  case on =>
    rw [edge_fall ho, noteOutput_line ho, hl]
    by_cases h : p.t2 = 0
    · rw [if_pos h, LineState.fall, if_pos h]
      rfl
    · rw [if_neg h, LineState.fall, if_neg h]
      rfl
  case armed => rw [exec_lineTimerExpiry hp, hs, expire_arming ho hl]; rfl
  case released => rw [exec_lineTimerExpiry hp, hs, expire_releasing ho hl]; rfl
  case still =>
    have hexpire : p.expire = p := by
      rcases hstill with ho | hl
      · exact expire_frozen ho
      · exact expire_stopped hl
    rw [exec_lineTimerExpiry hp, hs, hexpire, ← hs, State.setSlot, set_getElem_fin]

/-- Settles O43: the refusals by kind and by use elsewhere, and the assignment. -/
theorem setSlotPaperMovesThePaper : Obligations.SetSlotPaperMovesThePaper := by
  intro s c n ht ha ch moved
  refine ⟨?none, fun h r hl hd => ?display, fun h r f hl hd => ⟨fun helse => ?inUse, fun hfree => ?paper⟩⟩
  case none =>
    exact exec_done (n := 1) ht rfl ((onUnit_allowed (numberOf_slot n) ha _).trans (assigned_eq ..)) rfl
  all_goals have hblock := setSlotPaper_live (s := s.driveFill 7) hl (q := s.caller c) ha n
  case display =>
    exact exec_refused ht rfl (hblock.trans (if_pos (by rw [kind_display hd]; nofun)))
  all_goals rw [if_neg (not_not.mpr (kind_paper hd))] at hblock
  case inUse =>
    exact exec_refused ht rfl (hblock.trans (if_pos (paperElsewhere_iff (s := s.driveFill 7).mpr helse)))
  case paper =>
    have hnone : ¬ (s.driveFill 7).paperElsewhere n h = true := fun e =>
      (paperElsewhere_iff.mp e).elim fun k hk => hfree k hk.1 hk.2
    have hcondition : s.conditionOf (some h) = r.state.inMatch := by
      unfold State.conditionOf
      rw [Option.bind_some, record?_live hl]
      rfl
    have hdone := (hblock.trans (if_neg hnone)).trans (assigned_eq ..)
    refine exec_done (n := 2) ht rfl hdone ?_
    rw [show (s.driveFill 7).conditionOf (some h) = r.state.inMatch from hcondition]
    rfl

/-- Settles O44: the delays judged, and the line by the override before and after. -/
theorem setSlotLineOverridesTheLine : Obligations.SetSlotLineOverridesTheLine := by
  intro s c n o x1 x0 y1 y0 ht ha p t1 t2 exact line high q frame
  have hslot : p.setLine o t1 t2 (s.lineCondition n) = q := by
    rw [setLine_eq, noteOutput_eq, output_eq { p with override := o, t1 := t1, t2 := t2, line := _ }]
    rfl
  have hhigh : q.output = high := output_eq q
  have hblock : setSlotLine (s.caller c) [byteOf n.val, encOverride o, x1, x0, y1, y0] (s.driveFill 11) =
      refuseIf 1 [(.badValue, (decide (clampDelay (u16 x1 x0) ≠ u16 x1 x0) ||
          decide (clampDelay (u16 y1 y0) ≠ u16 y1 y0)) && s.clients[c].strict)]
        (onUnit 4 (s.caller c) (byteOf n.val) fun k =>
          accept (decide (clampDelay (u16 x1 x0) ≠ u16 x1 x0) || decide (clampDelay (u16 y1 y0) ≠ u16 y1 y0))
            (encSlotLine (s.slots[k].setLine o t1 t2 (s.lineCondition k)))
            ((s.driveFill 11).setSlot k (s.slots[k].setLine o t1 t2 (s.lineCondition k)))) := by
    simp only [setSlotLine, overrideOf_encOverride]
    rfl
  rw [refuseIf_one, delays_clamped, onUnit_allowed (numberOf_slot n) ha] at hblock
  refine ⟨fun hbad hstrict => ?strict, fun htaken => ?taken⟩
  case strict =>
    rw [show decide (u16 x1 x0 ≤ 6000 ∧ u16 y1 y0 ≤ 6000) = false from hbad, hstrict] at hblock
    exact exec_refused ht rfl hblock
  case taken =>
    have hpass : ¬ (!decide (u16 x1 x0 ≤ 6000 ∧ u16 y1 y0 ≤ 6000) && s.clients[c].strict) = true := by
      rcases htaken with e | e
      · rw [show decide (u16 x1 x0 ≤ 6000 ∧ u16 y1 y0 ≤ 6000) = true from e]; nofun
      · rw [e, Bool.and_false]; nofun
    rw [if_neg hpass, hslot] at hblock
    unfold encSlotLine at hblock
    rw [hhigh] at hblock
    exact exec_accept (n := 6) ht rfl hblock (by rw [outcome_of_ok]; rfl)

end Sys2Proof.Proofs
end

section
/-! Indications, clients and the Supervisor
(08_indications_and_supervision.md, 09_host_link_clients_and_refusals.md). -/
namespace Sys2Proof.Machine

/-! ## The source a request names (R156) -/

/-- R151: the indications of a source class by its code. -/
def membersOf (cls : Byte) : Byte :=
  match cls.toNat with | 0 => 0x1F | 1 => 0x01 | 2 => 0x07 | 3 => 0x07 | 4 => 0x3F | _ => 0

/-- R186: the number of sources of a class by its code. -/
def unitsOf (cls : Byte) : Nat := match cls.toNat with | 0 => 1 | 1 => 4 | 2 => 2 | 3 => 6 | 4 => 48 | _ => 0

theorem class_cases {cls : Byte} (h : cls.toNat ≤ 4) : cls = 0 ∨ cls = 1 ∨ cls = 2 ∨ cls = 3 ∨ cls = 4 := by bv_omega

theorem unitClass_cases {cls : Byte} (h : cls.toNat < 4) : cls = 0 ∨ cls = 1 ∨ cls = 2 ∨ cls = 3 := by bv_omega

theorem classMembers_defined {cls : Byte} (h : cls.toNat ≤ 4) : classMembers cls = some (membersOf cls) := by
  rcases class_cases h with rfl | rfl | rfl | rfl | rfl <;> rfl

theorem classMembers_undefined {cls : Byte} (h : 4 < cls.toNat) : classMembers cls = none := by
  have hne (n : Byte) (hn : n.toNat ≤ 4) : cls ≠ n := by rintro rfl; omega
  unfold classMembers
  rw [if_neg (hne 0 (by decide)), if_neg (hne 1 (by decide)),
    if_neg (not_or.mpr ⟨hne 2 (by decide), hne 3 (by decide)⟩), if_neg (hne 4 (by decide))]

theorem sourceOf_missing {cls number : Byte} (h : cls.toNat < 4) (hn : unitsOf cls ≤ number.toNat) :
    sourceOf cls number = .error .noSuchUnit := by
  rcases unitClass_cases h with rfl | rfl | rfl | rfl
  · rw [sourceOf_global, if_neg (by rintro rfl; cases hn)]
  · rw [sourceOf_slot, numberOf_none (show 4 ≤ number.toNat from hn)]; rfl
  · rw [sourceOf_lane, numberOf_none (show 2 ≤ number.toNat from hn)]; rfl
  · rw [sourceOf_channel, numberOf_none (show 6 ≤ number.toNat from hn)]; rfl

/-- The source is no record. -/
def Source.IsUnit (src : Source) : Prop := ∀ h, src ≠ .record h

theorem sourceOf_unit {cls number : Byte} (h : cls.toNat < 4) (hn : number.toNat < unitsOf cls) :
    ∃ src, sourceOf cls number = .ok src ∧ src.IsUnit := by
  rcases unitClass_cases h with rfl | rfl | rfl | rfl
  · exact ⟨.global, by rw [sourceOf_global, if_pos (byte_eq_zero_iff.mpr (Nat.lt_one_iff.mp hn))], nofun⟩
  · have hlt : number.toNat < 4 := hn
    exact ⟨.slot ⟨_, hlt⟩, by rw [sourceOf_slot, numberOf_of_lt hlt]; rfl, nofun⟩
  · have hlt : number.toNat < 2 := hn
    exact ⟨.lane ⟨_, hlt⟩, by rw [sourceOf_lane, numberOf_of_lt hlt]; rfl, nofun⟩
  · have hlt : number.toNat < 6 := hn
    exact ⟨.channel ⟨_, hlt⟩, by rw [sourceOf_channel, numberOf_of_lt hlt]; rfl, nofun⟩

theorem sourceOf_recordByte (h : Handle) : sourceOf 4 (byteOf h.val) = .ok (.record h) := by
  rw [sourceOf_record, numberOf_handle]
  rfl

/-- R186: the code of a source names it. -/
theorem source_code (src : Source) : ∃ cls number, src.code = [cls, number] ∧ classMembers cls = some src.members ∧
    sourceOf cls number = .ok src := by
  cases src with
  | global => exact ⟨0, 0, rfl, rfl, rfl⟩
  | slot n => exact ⟨1, _, rfl, rfl, by rw [sourceOf_slot, numberOf_slot]; rfl⟩
  | lane n => exact ⟨2, _, rfl, rfl, by rw [sourceOf_lane, numberOf_lane]; rfl⟩
  | channel n => exact ⟨3, _, rfl, rfl, by rw [sourceOf_channel, numberOf_channel]; rfl⟩
  | record h => exact ⟨4, _, rfl, rfl, sourceOf_recordByte h⟩

section
variable {cls number set members : Byte} {go : Source → Verdict}

theorem onSource_undefined (h : 4 < cls.toNat) : onSource cls number set go = .refused 1 [.badValue] := by
  unfold onSource
  rw [classMembers_undefined h]

theorem onSource_badSet (hm : classMembers cls = some members) (hs : set &&& ~~~members ≠ 0) :
    onSource cls number set go = .refused 1 [.badValue] := by
  unfold onSource
  rw [hm]
  dsimp only
  rw [refuseIf_one, decide_eq_true hs]
  rfl

theorem onSource_missing (hm : classMembers cls = some members) (hs : set &&& ~~~members = 0) {cause : Cause}
    (hsrc : sourceOf cls number = .error cause) : onSource cls number set go = .refused 2 [cause] := by
  unfold onSource
  rw [hm]
  dsimp only
  rw [refuseIf_one, decide_eq_false (not_not.mpr hs), hsrc]
  rfl

theorem onSource_found (hm : classMembers cls = some members) (hs : set &&& ~~~members = 0) {src : Source}
    (hsrc : sourceOf cls number = .ok src) : onSource cls number set go = go src := by
  unfold onSource
  rw [hm]
  dsimp only
  rw [refuseIf_one, decide_eq_false (not_not.mpr hs), hsrc]
  rfl

end

/-! ## Access to a source (R8, R156) -/

theorem ackAccess_live {s : State} {h : Handle} {r : Record} (hl : s.Live h r) (q : Caller) :
    ackAccess q s (.record h) = [(.notPermitted, !q.canChange r)] := by
  unfold ackAccess
  dsimp only
  rw [record?_live hl]

theorem ackAccess_vacant {s : State} {h : Handle} (hn : s.record? h = none) (q : Caller) :
    ackAccess q s (.record h) = [(.notAdmin, !q.admin)] := by
  unfold ackAccess
  dsimp only
  rw [hn]

/-- A client with access to the source passes the check. -/
theorem ackAccess_passes {s : State} {q : Caller} {src : Source}
    (hlive : ∀ h r, src = .record h → s.Live h r → q.canChange r = true)
    (hvacant : ∀ h, src = .record h → s.record? h = none → q.admin = true) (go : Verdict) :
    refuseIf 3 (ackAccess q s src) go = go := by
  cases src with
  | record h =>
    cases hr : s.record? h with
    | none => rw [ackAccess_vacant hr, refuseIf_one, hvacant h rfl hr]; rfl
    | some r =>
      rw [ackAccess_live (live_of_record? hr), refuseIf_one, hlive h r rfl (live_of_record? hr)]
      rfl
  | global => rfl
  | slot n => rfl
  | lane l => rfl
  | channel k => rfl

theorem enableOn_vacant {s : State} {h : Handle} (hn : s.record? h = none) (q : Caller) (go : Verdict) :
    enableOn q s (.record h) go = .refused 2 [.noSuchRecord] := by
  unfold enableOn
  dsimp only
  rw [hn]

theorem enableOn_live {s : State} {h : Handle} {r : Record} (hl : s.Live h r) (q : Caller) (go : Verdict) :
    enableOn q s (.record h) go = if !q.canChange r then .refused 3 [.notPermitted] else go := by
  unfold enableOn
  dsimp only
  rw [record?_live hl]
  dsimp only
  rw [refuseIf_one]

theorem enableOn_unit {src : Source} (hu : src.IsUnit) (q : Caller) (s : State) (go : Verdict) :
    enableOn q s src go = if !q.admin then .refused 3 [.notAdmin] else go := by
  unfold enableOn
  cases src with
  | record h => exact absurd rfl (hu h)
  | global => exact refuseIf_one
  | slot n => exact refuseIf_one
  | lane l => exact refuseIf_one
  | channel k => exact refuseIf_one

/-! ## The sets after a request (R157, R159) -/

theorem pendingOf_setPending (s : State) (src : Source) (v : Byte) : (s.setPending src v).pendingOf src = v := by
  cases src with
  | global => rfl
  | slot n => exact congrArg PrinterSlot.pending ((getElem_set_fin ..).trans (if_pos rfl))
  | lane n => exact congrArg Lane.pending ((getElem_set_fin ..).trans (if_pos rfl))
  | channel n => exact congrArg Channel.pending ((getElem_set_fin ..).trans (if_pos rfl))
  | record h => exact congrArg RecordSlot.pending ((getElem_set_fin ..).trans (if_pos rfl))

theorem pendingOf_acknowledge (s : State) (src : Source) (set : Byte) :
    (acknowledge src set s).pendingOf src = s.pendingOf src &&& ~~~set := by
  cases src with
  | global => rfl
  | slot n => exact pendingOf_setPending s (.slot n) _
  | lane n => exact pendingOf_setPending s (.lane n) _
  | channel n => exact pendingOf_setPending s (.channel n) _
  | record h => exact pendingOf_setPending s (.record h) _

/-- R153: each accumulating detail is emptied when its indication was pending and is acknowledged. -/
theorem acknowledge_global (g : Global) (set : Byte) : g.acknowledge set = { g with
    pending := g.pending &&& ~~~set
    resetReasons := if g.pending &&& set &&& 0x01 ≠ 0 then 0 else g.resetReasons
    expired := if g.pending &&& set &&& 0x02 ≠ 0 then 0 else g.expired
    faultSet := if g.pending &&& set &&& 0x10 ≠ 0 then 0 else g.faultSet } := by
  simp only [ite_not]
  rfl

theorem attn_iff {s : State} : s.attn = true ↔ ∃ src, s.pendingOf src &&& s.enabledOf src ≠ 0 := by
  rw [← Bool.not_eq_false, attn_eq_false_iff, not_forall]

/-! ## SET_CLIENT (R176, R177) -/

theorem clientByte_eq_zero_iff {d : ClientId} : clientByte d = 0 ↔ d = 0 := by
  revert d
  decide

theorem setClient_flags (q : Caller) (number : Byte) (strict admin : Bool) (s : State) :
    setClient q [number, encBool strict, encBool admin] s = if number = 0 && !admin then .refused 1 [.badValue]
      else onUnit 8 q number fun d =>
        .done [encBool strict, encBool admin] { s with clients := s.clients.set d ⟨strict, admin⟩ } := by
  simp only [setClient, onOff_encBool]
  exact refuseIf_one

end Sys2Proof.Machine

namespace Sys2Proof.Proofs
open Sys2Proof Sys2Proof.Machine

/-- Settles O45: class, set, number and access in turn; ATTN over the five classes; the sets after each request. -/
theorem acknowledgeEnableAndAttn : Obligations.AcknowledgeEnableAndAttn := by
  refine ⟨?refusals, fun s => ?attn, fun s c src set ht hset => ?answered⟩
  case refusals =>
    intro s c cls number set ht ack enable refused members units
    have ackRefused {g : Nat} {cause : Cause} (h : ackIndications (s.caller c) [1, cls, number, set] (s.driveFill 9) =
        .refused g [cause]) : refused ack g cause := exec_refused (n := 4) ht rfl h
    have enableRefused {g : Nat} {cause : Cause} (h : setEnables (s.caller c) [2, cls, number, set] (s.driveFill 9) =
        .refused g [cause]) : refused enable g cause := exec_refused (n := 4) ht rfl h
    refine ⟨fun hbad => ?value, fun hcls hset => ?_⟩
    case value =>
      by_cases h4 : 4 < cls.toNat
      · exact ⟨ackRefused (onSource_undefined h4), enableRefused (onSource_undefined h4)⟩
      · have hm : classMembers cls = some members := classMembers_defined (by omega)
        have hs := hbad.resolve_left h4
        exact ⟨ackRefused (onSource_badSet hm hs), enableRefused (onSource_badSet hm hs)⟩
    have hm : classMembers cls = some members := classMembers_defined hcls
    refine ⟨fun h4 hn => ?unit, fun h4 hn => ?record, fun h4 hn hnot => ?admin, fun h4 h hh => ⟨fun hvacant => ?vacant,
      fun r hl hnot => ?permitted⟩⟩
    case unit =>
      have hsrc := sourceOf_missing h4 hn
      exact ⟨ackRefused (onSource_missing hm hset hsrc), enableRefused (onSource_missing hm hset hsrc)⟩
    case record =>
      obtain rfl : cls = 4 := BitVec.eq_of_toNat_eq h4
      have hsrc : sourceOf 4 number = .error .noSuchRecord := by
        rw [sourceOf_record, numberOf_none (show 48 ≤ number.toNat from hn)]
        rfl
      exact ⟨ackRefused (onSource_missing hm hset hsrc), enableRefused (onSource_missing hm hset hsrc)⟩
    case admin =>
      obtain ⟨src, hsrc, hu⟩ := sourceOf_unit h4 hn
      refine enableRefused ((onSource_found hm hset hsrc).trans ((enableOn_unit hu ..).trans (if_pos ?_)))
      exact (Bool.not_eq_true' _).mpr (Bool.eq_false_iff.mpr hnot)
    all_goals
      obtain rfl : cls = 4 := BitVec.eq_of_toNat_eq h4
      have hsrc : sourceOf 4 number = .ok (.record h) := hh ▸ sourceOf_recordByte h
    case vacant =>
      refine ⟨enableRefused ((onSource_found hm hset hsrc).trans (enableOn_vacant (s := s.driveFill 9) hvacant ..)),
        fun hnot => ackRefused ((onSource_found hm hset hsrc).trans ?_)⟩
      rw [ackAccess_vacant (s := s.driveFill 9) hvacant, refuseIf_one,
        show (s.caller c).admin = false from Bool.eq_false_iff.mpr hnot]
      rfl
    case permitted =>
      have hchange : (s.caller c).canChange r = false := Bool.eq_false_iff.mpr (mt (canChange_iff s c r).mp hnot)
      refine ⟨ackRefused ((onSource_found hm hset hsrc).trans ?_),
        enableRefused ((onSource_found hm hset hsrc).trans ?_)⟩
      · rw [ackAccess_live (s := s.driveFill 9) hl, refuseIf_one, hchange]
        rfl
      · rw [enableOn_live (s := s.driveFill 9) hl, hchange]
        rfl
  case attn =>
    rw [attn_iff]
    constructor
    · rintro ⟨src, h⟩
      cases src with
      | global => exact .inl h
      | slot n => exact .inr (.inl ⟨n, h⟩)
      | lane l => exact .inr (.inr (.inl ⟨l, h⟩))
      | channel k => exact .inr (.inr (.inr (.inl ⟨k, h⟩)))
      | record g => exact .inr (.inr (.inr (.inr ⟨g, h⟩)))
    · rintro (h | ⟨n, h⟩ | ⟨l, h⟩ | ⟨k, h⟩ | ⟨g, h⟩)
      · exact ⟨.global, h⟩
      · exact ⟨.slot n, h⟩
      · exact ⟨.lane l, h⟩
      · exact ⟨.channel k, h⟩
      · exact ⟨.record g, h⟩
  case answered =>
    obtain ⟨cls, number, hcode, hm, hsrc⟩ := source_code src
    rw [hcode]
    refine ⟨fun hlive hvacant => ?_, fun hrecord hunit => ?_⟩
    · intro left t
      have hblock : ackIndications (s.caller c) [1, cls, number, set] (s.driveFill 9) = _ :=
        (onSource_found hm hset hsrc).trans (ackAccess_passes (s := s.driveFill 9)
          (fun h r e hl => (canChange_iff s c r).mpr (hlive h r e hl)) hvacant _)
      rw [pendingOf_acknowledge] at hblock
      refine exec_done (n := 4) ht rfl hblock ?_
      cases src with
      | global =>
        change State.respond { s.driveFill 9 with global := s.global.acknowledge set } .. = _
        rw [acknowledge_global]
        rfl
      | slot n => rfl
      | lane l => rfl
      | channel k => rfl
      | record h => rfl
    · intro t
      have hpasses (go : Verdict) : enableOn (s.caller c) (s.driveFill 9) src go = go := by
        by_cases hu : src.IsUnit
        · rw [enableOn_unit hu, show (s.caller c).admin = true from hunit hu]
          rfl
        · obtain ⟨h, hh⟩ := not_forall.mp hu
          obtain rfl := not_not.mp hh
          obtain ⟨r, hl, hmay⟩ := hrecord h rfl
          rw [enableOn_live (s := s.driveFill 9) hl, (canChange_iff s c r).mpr hmay]
          rfl
      have hblock : setEnables (s.caller c) [2, cls, number, set] (s.driveFill 9) = _ :=
        (onSource_found hm hset hsrc).trans (hpasses _)
      refine exec_done (n := 4) ht rfl hblock ?_
      cases src <;> rfl

/-- Settles O46: the value, the client number, the admin check, then the two flags. -/
theorem setClientReplacesBothFlags : Obligations.SetClientReplacesBothFlags := by
  intro s c number strict admin ht frame
  have hblock := setClient_flags (s.caller c) number strict admin (s.driveFill 8)
  refine ⟨fun hn ha => ?value, fun hn => ?unit, fun d hd hkept => ?client⟩
  case value => exact exec_refused ht rfl (hblock.trans (if_pos (by rw [hn, ha]; rfl)))
  case unit =>
    have hne : number ≠ 0 := by rintro rfl; cases hn
    exact exec_refused ht rfl ((hblock.trans (if_neg (by rw [decide_eq_false hne]; nofun))).trans (onUnit_none hn ..))
  case client =>
    have hpass : ¬ (decide (number = 0) && !admin) = true := by
      rw [Bool.and_eq_true, decide_eq_true_eq, Bool.not_eq_true', hd, clientByte_eq_zero_iff]
      exact hkept
    have hnumber : numberOf 8 number = some d := hd ▸ numberOf_client d
    have htaken := hblock.trans (if_neg hpass)
    exact ⟨fun hnot => exec_refused ht rfl (htaken.trans (onUnit_denied hnumber hnot _)),
      fun ha => exec_done (n := 3) ht rfl (htaken.trans (onUnit_allowed hnumber ha _)) rfl⟩

/-- Settles O47: the admin check, then every block cleared. -/
theorem clearTablesEmptiesTheTables : Obligations.ClearTablesEmptiesTheTables := by
  intro s c ht
  have hblock : clearTables (s.caller c) [] (s.driveFill 5) =
      refuseIf 3 [(.notAdmin, !s.clients[c].admin)] (.done [] (s.driveFill 5).cleared) := rfl
  rw [refuseIf_one] at hblock
  refine ⟨fun hnot => ?_, fun ha => ?_⟩
  · rw [Bool.eq_false_iff.mpr hnot] at hblock
    exact exec_refused ht rfl hblock
  · rw [show s.clients[c].admin = true from ha] at hblock
    exact exec_done (n := 0) ht rfl hblock rfl

end Sys2Proof.Proofs
end

section
/-! The Supervisor (10_supervisor.md). -/
namespace Sys2Proof.Machine

/-! ## The start of a procedure (R166, R167) -/

/-- A procedure of one source sets that source's flag. -/
theorem flags_alone (src : ResetSource) (phase : Phase) : (Procedure.mk src none phase).flags = src.flag :=
  BitVec.or_zero

/-! ## Onsets (R165) -/

/-- R162: the state under other conditions. -/
def State.under (s : State) (k : Conditions) : State := { s with conditions := k }

section
variable {s : State} {c : ResetCondition} {p : Procedure}

theorem onset_idle (hp : s.procedure = none) :
    onset c s = startProcedure ⟨sourceOfCondition c, none, .condition⟩ (s.under (s.conditions.begin c)) := by
  change onsetOn (sourceOfCondition c) (s.under (s.conditions.begin c)) = _
  unfold onsetOn
  rw [show (s.under (s.conditions.begin c)).procedure = _ from hp]

theorem onset_running (hp : s.procedure = some p) : onset c s =
    if (sourceOfCondition c).priority < p.source.priority then
      startProcedure ⟨sourceOfCondition c, none, .condition⟩ (s.under (s.conditions.begin c))
    else if (sourceOfCondition c).priority = p.source.priority then
      restartHold p (sourceOfCondition c) (s.under (s.conditions.begin c))
    else s.under (s.conditions.begin c) := by
  change onsetOn (sourceOfCondition c) (s.under (s.conditions.begin c)) = _
  unfold onsetOn
  rw [show (s.under (s.conditions.begin c)).procedure = _ from hp]
  rfl

end

/-! ## The end of a condition (R164) -/

/-- Some condition of the source's priority is present. -/
def Conditions.ofPriority (k : Conditions) : ResetSource → Bool
  | .powerOn => k.powerOn
  | .supplyLow => k.supplyLow || k.coreClockFail
  | .coreClockFail => k.supplyLow || k.coreClockFail
  | .pin => k.pin
  | .restart => false

theorem atPriority_priority (k : Conditions) (src : ResetSource) : k.atPriority src.priority = k.ofPriority src := by
  cases src <;> simp [Conditions.atPriority, Conditions.ofPriority, ResetSource.priority]

section
variable {s : State}

theorem settlePhase_idle (hp : s.procedure = none) : settlePhase s = s := by
  unfold settlePhase
  rw [hp]

theorem settlePhase_hold {p : Procedure} {t : Nat} (hp : s.procedure = some p) (ht : p.phase = .hold t) :
    settlePhase s = s := by
  unfold settlePhase
  rw [hp]
  dsimp only
  rw [ht]

theorem settlePhase_condition {p : Procedure} (hp : s.procedure = some p) (hc : p.phase = .condition) :
    settlePhase s = if s.conditions.ofPriority p.source then s
      else { s with procedure := some { p with phase := .hold (holdMs p.source.priority) } } := by
  unfold settlePhase
  rw [hp]
  dsimp only
  rw [hc, ← atPriority_priority]
  rfl

end

/-! ## The end of a hold (R168) -/

section
variable {k : Conditions} {n : Nat}

theorem continuation_supplyLow (hn : n < 2) (h : k.supplyLow = true) : continuation k n =
    some ⟨.supplyLow, if k.coreClockFail then some .coreClockFail else none, .condition⟩ := if_pos ⟨hn, h⟩

theorem continuation_coreClockFail (hn : n < 2) (hl : k.supplyLow = false) (h : k.coreClockFail = true) :
    continuation k n = some ⟨.coreClockFail, none, .condition⟩ :=
  (if_neg (fun e => Bool.false_ne_true (hl.symm.trans e.2))).trans (if_pos ⟨hn, h⟩)

/-- No condition of priority 2 takes up. -/
theorem continuation_low (h : n < 2 → k.supplyLow = false ∧ k.coreClockFail = false) :
    continuation k n = if n < 3 ∧ k.pin then some ⟨.pin, none, .condition⟩ else none :=
  (if_neg fun e => Bool.false_ne_true ((h e.1).1.symm.trans e.2)).trans
    (if_neg fun e => Bool.false_ne_true ((h e.1).2.symm.trans e.2))

variable {s : State} {p : Procedure} {t : Nat}

theorem holdExpiry_continues (hp : s.procedure = some p) (ht : p.phase = .hold t) {q : Procedure}
    (hq : continuation s.conditions p.source.priority = some q) : holdExpiry s = startProcedure q s := by
  unfold holdExpiry
  rw [hp]
  dsimp only
  rw [ht, show continuation s.conditions p.priority = some q from hq]

theorem holdExpiry_ends (hp : s.procedure = some p) (ht : p.phase = .hold t)
    (hq : continuation s.conditions p.source.priority = none) : holdExpiry s = endProcedure s := by
  unfold holdExpiry
  rw [hp]
  dsimp only
  rw [ht, show continuation s.conditions p.priority = none from hq]

end

theorem priority_lt_two_iff {src : ResetSource} : src.priority < 2 ↔ src.priority = 1 := by cases src <;> decide

/-! ## RESTART (R184) -/

/-- R184: a taken request that starts a procedure prepares no response. -/
theorem exec_restarted {s t : State} {i : Instr} {kind : Byte} {run : Block} {c : ClientId} {body : List Byte}
    (ht : s.Takes) (hi : exec i s = .next (takeRequest kind run (clientByte c) body s)) (hb : body.length ≤ 200)
    (h : run (s.caller c) body (s.driveFill (5 + body.length)) = .restarted t) : exec i s = .next t := by
  rw [hi, takeRequest_taken ht kind run c body hb, h]
  rfl

end Sys2Proof.Machine

namespace Sys2Proof.Proofs
open Sys2Proof Sys2Proof.Machine

/-- Settles O48: an onset compares its priority with the running procedure's, for each of the four conditions. -/
theorem onsetsActByPriority : Obligations.OnsetsActByPriority := by
  intro s reasons begun again acts
  have acts_of {i : Instr} (c : ResetCondition) {kept : Byte} (hi : exec i s = .next (onset c s))
      (hkept : keptReasons (sourceOfCondition c).priority = kept) :
      acts i (sourceOfCondition c) kept (s.conditions.begin c) := by
    have begins : startProcedure ⟨sourceOfCondition c, none, .condition⟩ (s.under (s.conditions.begin c)) =
        begun (sourceOfCondition c) kept (s.conditions.begin c) := by
      unfold startProcedure
      rw [flags_alone]
      subst hkept
      rfl
    refine ⟨fun hp => ?idle, fun p hp => ⟨fun h => ?higher, fun h => ?equal, fun h => ?lower⟩⟩
    case idle => rw [hi, onset_idle hp, begins]
    case higher => rw [hi, onset_running hp, if_pos h, begins]
    case equal =>
      rw [hi, onset_running hp, if_neg (Nat.not_lt.mpr h.ge), if_pos h]
      rfl
    case lower =>
      rw [hi, onset_running hp, if_neg (Nat.not_lt.mpr h.le), if_neg h.ne']
      rfl
  exact ⟨acts_of .powerOn rfl rfl, acts_of .supplyLow rfl rfl, acts_of .coreClockFail rfl rfl, acts_of .pin rfl rfl⟩

/-- Settles O49: the condition ends if it was present, and the phase of the procedure is settled. -/
theorem conditionEndStartsTheHold : Obligations.ConditionEndStartsTheHold := by
  intro s x left holds
  have hleft : s.conditions.finish x = left := by cases x <;> rfl
  have hholds (src : ResetSource) : left.ofPriority src = holds left src := by cases src <;> rfl
  have hexec : exec (.conditionEnd x) s = .next (conditionEnd x s) := rfl
  refine ⟨fun habsent => ?absent, fun hpresent => ?_⟩
  case absent =>
    have h : s.conditions.has x = false := by cases x <;> exact habsent
    rw [hexec, conditionEnd, if_neg (by rw [h]; nofun)]
  have h : s.conditions.has x = true := by cases x <;> exact hpresent
  have hend : exec (.conditionEnd x) s = .next (settlePhase (s.under left)) := by
    rw [hexec, conditionEnd, if_pos h, hleft]
    rfl
  rw [hend]
  refine ⟨fun hp => ?idle, fun p t hp ht => ?hold, fun p hp hc => ?_⟩
  case idle => rw [settlePhase_idle (s := s.under left) hp]; rfl
  case hold => rw [settlePhase_hold (s := s.under left) hp ht]; rfl
  rw [settlePhase_condition (s := s.under left) hp hc, show (s.under left).conditions = left from rfl, hholds]
  exact ⟨fun hl => by rw [if_pos hl]; rfl, fun hl => by rw [if_neg (by rw [hl]; nofun)]; rfl⟩

/-- Settles O50: the continuation is taken in the order of the priorities, or the procedure ends. -/
theorem holdExpiryContinuesOrEnds : Obligations.HoldExpiryContinuesOrEnds := by
  intro s p t hp ht k next
  have hexec : exec .holdTimerExpiry s = .next (holdExpiry s) := rfl
  have continues {q : Procedure} (hq : continuation s.conditions p.source.priority = some q) :
      exec .holdTimerExpiry s = .next (startProcedure q s) := by rw [hexec, holdExpiry_continues hp ht hq]
  have low (h1 : p.source.priority = 1 → k.supplyLow = false ∧ k.coreClockFail = false) :=
    continuation_low (k := s.conditions) fun hlt => h1 (priority_lt_two_iff.mp hlt)
  refine ⟨fun h1 hl hc => ?both, fun h1 hl hc => ?supply, fun h1 hl hc => ?clock, fun h2 h1 hpin => ?pin,
    fun h1 h2 => ?ends⟩
  case both =>
    refine (continues (continuation_supplyLow (by rw [h1]; decide) hl)).trans ?_
    rw [if_pos hc]
    rfl
  case supply =>
    refine (continues (continuation_supplyLow (by rw [h1]; decide) hl)).trans ?_
    rw [if_neg (by rw [hc]; nofun)]
    rfl
  case clock => exact continues (continuation_coreClockFail (by rw [h1]; decide) hl hc)
  case pin => exact continues ((low h1).trans (if_pos ⟨Nat.lt_succ_of_le h2, hpin⟩))
  case ends =>
    have hnone : ¬ (p.source.priority < 3 ∧ s.conditions.pin = true) := fun e =>
      Bool.false_ne_true ((h2 (Nat.le_of_lt_succ e.1)).symm.trans e.2)
    rw [hexec, holdExpiry_ends hp ht ((low h1).trans (if_neg hnone))]
    rfl

/-- Settles O51: the admin check, then the procedure's start under the frame's fill bytes. -/
theorem restartStartsAProcedure : Obligations.RestartStartsAProcedure := by
  intro s c ht
  have hblock : restart (s.caller c) [] (s.driveFill 5) =
      refuseIf 3 [(.notAdmin, !s.clients[c].admin)] (.restarted (beginRestart (s.driveFill 5))) := rfl
  rw [refuseIf_one] at hblock
  refine ⟨fun hnot => ?_, fun ha => ?_⟩
  · rw [Bool.eq_false_iff.mpr hnot] at hblock
    exact exec_refused ht rfl hblock
  · rw [show s.clients[c].admin = true from ha] at hblock
    exact exec_restarted ht rfl (Nat.zero_le _) hblock

end Sys2Proof.Proofs
end

section
/-! The timers (04_timing.md): an idle step. -/
namespace Sys2Proof.Machine

/-! ## The steps on an empty queue -/

section
variable {s : State} (hq : s.pending = [])
include hq

theorem step_idle : step s = .next (tick s) := by
  unfold step
  rw [hq]

theorem step_counts (hp : s.procedure = none) : step s = .next s.countDown.runOut := by
  rw [step_idle hq, tick, hp]

theorem step_holdTick {p : Procedure} (hp : s.procedure = some p) : step s = .next (holdTick p s) := by
  rw [step_idle hq, tick, hp]

end

theorem holdTick_condition {p : Procedure} (hc : p.phase = .condition) (s : State) : holdTick p s = s := by
  unfold holdTick
  rw [hc]

theorem holdTick_hold {p : Procedure} {t : Nat} (ht : p.phase = .hold t) (s : State) : holdTick p s =
    if t ≤ 1 then holdExpiry s else { s with procedure := some { p with phase := .hold (t - 1) } } := by
  unfold holdTick
  rw [ht]

/-! ## Timers with time left -/

/-- No timer of the context stands at 0. -/
def Context.HasTime (x : Context) : Prop := (∀ h b k, x ≠ .loading h b k 0) ∧ ∀ h b q f, x ≠ .checking h b 0 q f

/-- The signal timer does not stand at 0. -/
def Signal.HasTime (x : Signal) : Prop := x ≠ .active 0

/-- The inactivity timer does not stand at 0. -/
def Channel.HasTime (x : Channel) : Prop := ∀ count readings, x.strip ≠ some ⟨count, readings, 0⟩

/-- The line timer does not stand at 0. -/
def LineState.HasTime (x : LineState) : Prop := x ≠ .arming 0 ∧ x ≠ .releasing 0

/-- The gap timer does not stand at 0. -/
def Receiver.HasTime (x : Receiver) : Prop := ∀ bytes, x ≠ .receiving bytes 0

/-- No timer stands at 0. -/
structure State.HasTime (s : State) : Prop where
  contexts : ∀ c : ContextId, s.contexts[c].HasTime
  lanes : ∀ l : LaneId, s.lanes[l].signal.HasTime
  channels : ∀ c : ChannelId, s.channels[c].HasTime
  slots : ∀ n : SlotId, s.slots[n].line.HasTime
  receiver : s.receiver.HasTime

section
variable {s : State}

theorem expireContext_of_hasTime {c : ContextId} (h : s.contexts[c].HasTime) : expireContext s c = s := by
  unfold expireContext
  split
  · next e => exact (h.1 _ _ _ e).elim
  · next e => exact (h.2 _ _ _ _ e).elim
  · rfl

theorem expireLane_of_hasTime {l : LaneId} (h : s.lanes[l].signal.HasTime) : expireLane s l = s := by
  unfold expireLane
  split
  · next e => exact absurd e h
  · rfl

theorem expireChannel_of_hasTime {c : ChannelId} (h : s.channels[c].HasTime) : expireChannel s c = s := by
  unfold expireChannel
  split
  · next e => exact (h _ _ e).elim
  · rfl

theorem expireSlot_of_hasTime {n : SlotId} (h : s.slots[n].line.HasTime) : expireSlot s n = s := by
  unfold expireSlot
  split
  · next e => exact absurd e h.1
  · next e => exact absurd e h.2
  · rfl

theorem expireGap_of_hasTime (h : s.receiver.HasTime) : expireGap s = s := by
  unfold expireGap
  split
  · next e => exact (h _ e).elim
  · rfl

/-! The expiry of a timer at 0. -/

theorem expireContext_staging {c : ContextId} {h : Handle} {b : BankId} {k : Coverage}
    (e : s.contexts[c] = .loading h b k 0) : expireContext s c = stagingExpiry c s := by
  unfold expireContext
  rw [e]
  rfl

theorem expireContext_bound {c : ContextId} {h : Handle} {b : BankId} {q : ClientId} {f : Bool}
    (e : s.contexts[c] = .checking h b 0 q f) : expireContext s c = checkCompletes s := by
  unfold expireContext
  rw [e]
  rfl

theorem expireLane_loss {l : LaneId} (e : s.lanes[l].signal = .active 0) : expireLane s l = signalLoss l s := by
  unfold expireLane
  rw [e]
  rfl

theorem expireChannel_inactive {c : ChannelId} {count : Nat} {readings : List Reading}
    (e : s.channels[c].strip = some ⟨count, readings, 0⟩) : expireChannel s c = inactivityExpiry c s := by
  unfold expireChannel
  rw [e]
  rfl

theorem expireSlot_arming {n : SlotId} (e : s.slots[n].line = .arming 0) : expireSlot s n = lineTimerExpiry n s := by
  unfold expireSlot
  rw [e]
  rfl

theorem expireSlot_releasing {n : SlotId} (e : s.slots[n].line = .releasing 0) :
    expireSlot s n = lineTimerExpiry n s := by
  unfold expireSlot
  rw [e]
  rfl

theorem expireGap_over {bytes : List Byte} (e : s.receiver = .receiving bytes 0) : expireGap s = gapExpiry s := by
  unfold expireGap
  rw [e]
  rfl

/-- While no timer stands at 0, none runs out. -/
theorem runOut_of_hasTime (h : s.HasTime) : s.runOut = s := by
  unfold State.runOut
  rw [List.foldl_fixed' fun c => expireContext_of_hasTime (h.contexts c),
    List.foldl_fixed' fun l => expireLane_of_hasTime (h.lanes l),
    List.foldl_fixed' fun c => expireChannel_of_hasTime (h.channels c),
    List.foldl_fixed' fun n => expireSlot_of_hasTime (h.slots n), expireGap_of_hasTime h.receiver]

end

/-! ## One millisecond of each timer -/

theorem pred_ne_zero_of_one_lt {t : Nat} (h : 1 < t) : t - 1 ≠ 0 := by omega

theorem idle_hasTime : Context.idle.HasTime :=
  ⟨fun _ _ _ e => Context.noConfusion e, fun _ _ _ _ e => Context.noConfusion e⟩

theorem loading_hasTime {h : Handle} {b : BankId} {k : Coverage} {t : Nat} (ht : t ≠ 0) :
    (Context.loading h b k t).HasTime :=
  ⟨fun _ _ _ e => ht (Context.loading.inj e).2.2.2, fun _ _ _ _ e => Context.noConfusion e⟩

theorem checking_hasTime {h : Handle} {b : BankId} {t : Nat} {q : ClientId} {f : Bool} (ht : t ≠ 0) :
    (Context.checking h b t q f).HasTime :=
  ⟨fun _ _ _ e => Context.noConfusion e, fun _ _ _ _ e => ht (Context.checking.inj e).2.2.1⟩

theorem count_active_hasTime {t : Nat} (ht : 1 < t) : (Signal.active t).count.HasTime :=
  fun e => pred_ne_zero_of_one_lt ht (Signal.active.inj e)

theorem count_idle_hasTime {x : Channel} (hx : x.strip = none) : x.count.HasTime := by
  intro count readings
  change x.strip.map _ ≠ _
  rw [hx]
  nofun

theorem count_strip_hasTime {x : Channel} {st : Strip} (hx : x.strip = some st) (ht : 1 < st.timer) :
    x.count.HasTime := by
  intro count readings
  change x.strip.map _ ≠ _
  rw [hx]
  exact fun e => pred_ne_zero_of_one_lt ht (congrArg Strip.timer (Option.some.inj e))

theorem count_arming_hasTime {t : Nat} (ht : 1 < t) : (LineState.arming t).count.HasTime :=
  ⟨fun e => pred_ne_zero_of_one_lt ht (LineState.arming.inj e), nofun⟩

theorem count_releasing_hasTime {t : Nat} (ht : 1 < t) : (LineState.releasing t).count.HasTime :=
  ⟨nofun, fun e => pred_ne_zero_of_one_lt ht (LineState.releasing.inj e)⟩

theorem count_receiving_hasTime {bytes : List Byte} {t : Nat} (ht : 1 < t) :
    (Receiver.receiving bytes t).count.HasTime :=
  fun _ e => pred_ne_zero_of_one_lt ht (Receiver.receiving.inj e).2

theorem countDown_eq {s : State} {contexts : Vector Context 4} {lanes : Vector Lane 2} {channels : Vector Channel 6}
    {slots : Vector PrinterSlot 4} {receiver : Receiver} (hc : s.contexts.map Context.count = contexts)
    (hl : s.lanes.map (fun x => { x with signal := x.signal.count }) = lanes)
    (hch : s.channels.map Channel.count = channels)
    (hs : s.slots.map (fun x => { x with line := x.line.count }) = slots) (hr : s.receiver.count = receiver) :
    s.countDown = { s with
      contexts := contexts, lanes := lanes, channels := channels, slots := slots, receiver := receiver } := by
  subst hc hl hch hs hr
  rfl

end Sys2Proof.Machine

namespace Sys2Proof.Proofs
open Sys2Proof Sys2Proof.Machine

/-- Settles O2: the blocks' timers count and run out, or the hold timer alone. -/
theorem idleStepCountsTimersDown : Obligations.IdleStepCountsTimersDown := by
  refine ⟨?free, fun s p hq hp => ⟨fun hc => ?condition, fun t ht => ⟨fun h1 => ?hold, fun h1 => ?out⟩⟩⟩
  case condition => rw [step_holdTick hq hp, holdTick_condition hc]
  case hold => rw [step_holdTick hq hp, holdTick_hold ht, if_neg (Nat.not_le.mpr h1)]
  case out =>
    rw [step_holdTick hq hp, holdTick_hold ht, if_pos h1]
    rfl
  case free =>
    intro s hq hp counted takes contextOut laneOut channelOut slotOut gapOut
    have hcounted : s.countDown = counted :=
      countDown_eq (congrArg s.contexts.map (funext fun x => by cases x <;> rfl))
        (congrArg s.lanes.map (funext fun x => by rcases x with ⟨_ | _⟩ <;> rfl))
        (congrArg s.channels.map (funext fun x => by rcases x with ⟨_, _ | _⟩ <;> rfl))
        (congrArg s.slots.map (funext fun x => by rcases x with ⟨_, _, _, _, _ | _ | _ | _⟩ <;> rfl))
        (by cases s.receiver <;> rfl)
    have hcontext : contextOut = expireContext := by
      funext t c
      dsimp only [contextOut]
      split
      · next e => exact (expireContext_staging e).symm
      · next e => exact (expireContext_bound e).symm
      · next h1 h2 => exact (expireContext_of_hasTime ⟨h1, h2⟩).symm
    have hlane : laneOut = expireLane := by
      funext t l
      dsimp only [laneOut]
      split
      · next e => exact (expireLane_loss e).symm
      · next h => exact (expireLane_of_hasTime h).symm
    have hchannel : channelOut = expireChannel := by
      funext t k
      dsimp only [channelOut]
      split
      · next e => exact (expireChannel_inactive e).symm
      · next h => exact (expireChannel_of_hasTime h).symm
    have hslot : slotOut = expireSlot := by
      funext t n
      dsimp only [slotOut]
      split
      · next e => exact (expireSlot_arming e).symm
      · next e => exact (expireSlot_releasing e).symm
      · next h1 h2 => exact (expireSlot_of_hasTime ⟨h1, h2⟩).symm
    have hgap : gapOut = expireGap := by
      funext t
      dsimp only [gapOut]
      split
      · next e => exact (expireGap_over e).symm
      · next h => exact (expireGap_of_hasTime h).symm
    rw [step_counts hq hp, hcontext, hlane, hchannel, hslot, hgap, ← hcounted]
    refine ⟨rfl, fun hc hl hch hs hr => congrArg Host.Outcome.next (runOut_of_hasTime
      ⟨fun c => ?context, fun l => ?lane, fun k => ?channel, fun n => ?slot, ?gap⟩)⟩
    case context =>
      rw [show s.countDown.contexts[c] = s.contexts[c].count from getElem_map_fin _ _ c]
      have ht := hc c
      cases hx : s.contexts[c] with
      | idle => exact idle_hasTime
      | loading h b k t => rw [hx] at ht; exact loading_hasTime (pred_ne_zero_of_one_lt ht)
      | checking h b t q f => rw [hx] at ht; exact checking_hasTime (pred_ne_zero_of_one_lt ht)
    case lane =>
      rw [show s.countDown.lanes[l].signal = s.lanes[l].signal.count from
        congrArg Lane.signal (getElem_map_fin _ _ l)]
      have ht := hl l
      cases hx : s.lanes[l].signal with
      | noSignal => exact nofun
      | active t => rw [hx] at ht; exact count_active_hasTime ht
    case channel =>
      rw [show s.countDown.channels[k] = s.channels[k].count from getElem_map_fin _ _ k]
      have ht := hch k
      cases hx : s.channels[k].strip with
      | none => exact count_idle_hasTime hx
      | some st => rw [hx] at ht; exact count_strip_hasTime hx ht
    case slot =>
      rw [show s.countDown.slots[n].line = s.slots[n].line.count from
        congrArg PrinterSlot.line (getElem_map_fin _ _ n)]
      have ht := hs n
      cases hx : s.slots[n].line with
      | off => exact ⟨nofun, nofun⟩
      | on => exact ⟨nofun, nofun⟩
      | arming t => rw [hx] at ht; exact count_arming_hasTime ht
      | releasing t => rw [hx] at ht; exact count_releasing_hasTime ht
    case gap =>
      change s.receiver.count.HasTime
      cases hx : s.receiver with
      | hunting => exact nofun
      | receiving bytes t => rw [hx] at hr; exact count_receiving_hasTime hr

end Sys2Proof.Proofs
end

section
/-! The layouts of the reading requests (13_codes_and_layouts.md, R188). -/
namespace Sys2Proof.Machine

/-! ## Lengths -/

theorem length_flatMap_const {α β : Type} {f : α → List β} {n : Nat} (hf : ∀ x, (f x).length = n) (xs : List α) :
    (xs.flatMap f).length = n * xs.length := by
  induction xs with
  | nil => rfl
  | cons x xs ih => rw [List.flatMap_cons, List.length_append, hf, ih, List.length_cons, Nat.mul_succ, Nat.add_comm]

@[simp] theorem length_encPatches (ps : List Triple) : (encPatches ps).length = 1 + 6 * ps.length := by
  rw [encPatches, List.length_cons, length_flatMap_const length_encTriple, Nat.add_comm]

@[simp] theorem length_encSettings (r : Record) : (encSettings r).length = 13 := rfl

@[simp] theorem length_encPendingBinding (x : PendingBinding) : (encPendingBinding x).length = 3 := by cases x <;> rfl

@[simp] theorem length_stripHead (x : Option Strip) : (stripHead x).length = 5 := by cases x <;> rfl

@[simp] theorem length_code (src : Source) : src.code.length = 2 := by cases src <;> rfl

theorem length_recordLayout (s : State) (h : Handle) (r : Record) :
    (recordLayout s h r).length = 76 + 6 * r.patches.length := by
  simp [recordLayout]
  omega

theorem length_poolLayout (s : State) : (poolLayout s).length = 125 := by
  rw [poolLayout, List.length_cons, List.length_append, length_flatMap_const (n := 4) fun _ => rfl,
    length_flatMap_const (n := 7) fun _ => rfl, List.length_finRange, List.length_finRange]

theorem length_laneLayout (x : Lane) : (laneLayout x).length = 13 := by simp [laneLayout]

theorem length_channelLayout (s : State) (k : ChannelId) :
    (channelLayout s k).length = 22 + 7 * (stripReadings s.channels[k].strip).length := by
  rw [channelLayout, List.length_append, length_flatMap_const (n := 7) fun _ => rfl]
  simp

theorem length_noticeLayout (s : State) : (noticeLayout s).length = 12 + 5 * s.notices.length := by
  have hentry (src : Source) : (noticeEntry s src).length = 5 := by simp [noticeEntry]
  rw [noticeLayout, List.length_append, length_flatMap_const hentry]
  rfl

/-! ## The requests on one unit -/

theorem readUnit_number {n : Nat} {b : Byte} {k : Fin n} (hb : numberOf n b = some k) (layout : Fin n → List Byte)
    (s : State) (cls : Byte) : readUnit n layout s [cls, b] = .done (cls :: b :: layout k) s := by
  unfold readUnit
  dsimp only
  rw [hb]

/-! ## READ_NODE (R48) -/

theorem readNode_high {s : State} {n1 n0 : Byte} (hn : 728 < u16 n1 n0) (q : Caller) (hb : Byte) :
    readNode q [hb, n1, n0] s = .refused 1 [.badValue] := by
  change refuseIf 1 [(.badValue, decide (728 < u16 n1 n0))] _ = _
  rw [refuseIf_one, decide_eq_true hn]
  rfl

theorem readNode_allowed {s : State} {h : Handle} {r : Record} {n1 n0 : Byte} {q : Caller} (hn : u16 n1 n0 ≤ 728)
    (hl : s.Live h r) (ha : q.canLookup r = true) : readNode q [byteOf h.val, n1, n0] s =
      r.bank.elim (.refused 4 [.noGrid]) fun b => .done (encTriple (s.banks[b].read (u16 n1 n0))) s := by
  unfold readNode
  dsimp only
  rw [refuseIf_one, decide_eq_false (Nat.not_lt.mpr hn), onRecord_allowed hl ha]
  cases r.bank <;> rfl

/-! ## The holders of a bank (R27) -/

theorem bankOf_eq_some_iff {s : State} {h : Handle} {b : BankId} :
    s.bankOf h = some b ↔ ∃ r, s.Live h r ∧ r.bank = some b := by
  unfold State.bankOf
  rw [Option.bind_eq_some_iff]
  exact exists_congr fun r => and_congr_left' ⟨live_of_record?, record?_live⟩

theorem recordHolder_some {s : State} {b : BankId} {h : Handle} (hh : s.recordHolder b = some h) :
    ∃ r, s.Live h r ∧ r.bank = some b := by
  have hp := List.find?_some (p := fun h => decide (s.bankOf h = some b)) hh
  exact bankOf_eq_some_iff.mp (of_decide_eq_true hp)

theorem recordHolder_none {s : State} {b : BankId} (hn : s.recordHolder b = none) (h : Handle) (r : Record)
    (hl : s.Live h r) : r.bank ≠ some b := fun e =>
  of_decide_eq_false (find?_finRange_none.mp hn h) (bankOf_eq_some_iff.mpr ⟨r, hl, e⟩)

theorem contextHolder_some {s : State} {b : BankId} {k : ContextId} (hk : s.contextHolder b = some k) :
    s.contexts[k].bank? = some b := by
  have hp := List.find?_some (p := fun c : ContextId => decide (s.contexts[c].bank? = some b)) hk
  exact of_decide_eq_true hp

theorem contextHolder_none {s : State} {b : BankId} (hn : s.contextHolder b = none) (k : ContextId) :
    s.contexts[k].bank? ≠ some b := of_decide_eq_false (find?_finRange_none.mp hn k)

/-- Four flags as the low bits of a byte. -/
def maskOf (x0 x1 x2 x3 : Bool) : Byte :=
  (if x0 then 1 else 0) ||| (if x1 then 2 else 0) ||| (if x2 then 4 else 0) ||| (if x3 then 8 else 0)

theorem maskOf_bits (x0 x1 x2 x3 : Bool) :
    (maskOf x0 x1 x2 x3).getLsbD 0 = x0 ∧ (maskOf x0 x1 x2 x3).getLsbD 1 = x1 ∧ (maskOf x0 x1 x2 x3).getLsbD 2 = x2 ∧
      (maskOf x0 x1 x2 x3).getLsbD 3 = x3 ∧ (maskOf x0 x1 x2 x3).toNat < 16 := by
  revert x0 x1 x2 x3
  decide

theorem laneMask_eq (s : State) (b : BankId) : s.laneMask b =
    maskOf (decide (s.lanes[0].displayRef = some b)) (decide (s.lanes[0].paperRef = some b))
      (decide (s.lanes[1].displayRef = some b)) (decide (s.lanes[1].paperRef = some b)) := by
  simp only [State.laneMask, maskOf, decide_eq_true_eq]

end Sys2Proof.Machine

namespace Sys2Proof.Proofs
open Sys2Proof Sys2Proof.Machine

/-- Settles O14: each reading request answers its layout; the layouts field by field. -/
theorem readingRequestsAnswerTheirLayouts : Obligations.ReadingRequestsAnswerTheirLayouts := by
  refine ⟨fun s c ht => ⟨fun h r hl hmay => ?record, ?pool, fun l => ?lane, fun n => ?slot, fun k => ?channel, ?notices,
    fun h r n1 n0 hl hmay => ?node⟩, ?layouts⟩
  case record =>
    exact ⟨exec_done (n := 1) ht rfl
      (onRecord_allowed (s := s.driveFill 6) hl ((canLookup_iff s c r).mpr hmay) _) rfl, length_recordLayout s h r⟩
  case pool => exact ⟨exec_done (n := 0) (run := readPool) ht rfl rfl rfl, length_poolLayout s⟩
  case lane => exact ⟨exec_done (n := 2) ht rfl (readUnit_number (numberOf_lane l) ..) rfl, length_laneLayout _⟩
  case slot => exact ⟨exec_done (n := 2) ht rfl (readUnit_number (numberOf_slot n) ..) rfl, rfl⟩
  case channel =>
    exact ⟨exec_done (n := 2) ht rfl (readUnit_number (numberOf_channel k) ..) rfl, length_channelLayout s k⟩
  case notices => exact ⟨exec_done (n := 0) (run := readNotices) ht rfl rfl rfl, length_noticeLayout s⟩
  case node =>
    have hread (hn : u16 n1 n0 ≤ 728) :=
      readNode_allowed (s := s.driveFill 8) (q := s.caller c) hn hl ((canLookup_iff s c r).mpr hmay)
    refine ⟨fun hn => exec_refused ht rfl (readNode_high hn ..), fun hn hb => exec_refused ht rfl ?_, fun b hn hb =>
      exec_done (n := 3) (t := s.driveFill 8) ht rfl ?_ rfl⟩
    · exact (hread hn).trans (by rw [hb]; rfl)
    · exact (hread hn).trans (by rw [hb]; rfl)
  case layouts =>
    intro s two flag number
    have hnumber {n : Nat} (o : Option (Fin n)) : encNumber o = number o := by cases o <;> rfl
    have htwo (n : Nat) : enc16 n = two n := enc16_nat n
    refine ⟨rfl, fun b => ?bank, fun k => ?context, fun l => ?lane, fun n => ?slot, fun k => ?channel⟩
    case bank =>
      refine ⟨s.recordHolder b, s.contextHolder b, s.laneMask b, ?_, fun h => recordHolder_some, recordHolder_none,
        fun k => contextHolder_some, contextHolder_none, ?_⟩
      · rw [bankLayout, hnumber, hnumber]
        rfl
      · rw [laneMask_eq]
        obtain ⟨h0, h1, h2, h3, hlt⟩ := maskOf_bits (decide (s.lanes[0].displayRef = some b))
          (decide (s.lanes[0].paperRef = some b)) (decide (s.lanes[1].displayRef = some b))
          (decide (s.lanes[1].paperRef = some b))
        rw [h0, h1, h2, h3]
        simp only [decide_eq_true_eq, true_and]
        exact hlt
    case context =>
      rw [contextLayout, htwo, htwo]
      cases s.contexts[k] with
      | idle => rfl
      | loading h b coverage t => rfl
      | checking h b t q f =>
        change _ = [2, byteOf h.val, byteOf b.val] ++ two Config.nodes ++ two 0
        rfl
    case lane =>
      intro x
      have hsignal : encSignal x.signal = flag (x.signal ≠ .noSignal) := by cases x.signal <;> rfl
      rw [laneLayout, hsignal, hnumber, hnumber, hnumber, hnumber]
      rfl
    case slot =>
      intro p left
      rw [slotLayout, htwo, htwo, htwo, hnumber]
      rfl
    case channel =>
      intro x f
      dsimp only [x, f]
      rw [channelLayout, hnumber]
      cases s.channels[k].strip with
      | none => rfl
      | some st =>
        rw [stripHead, htwo]
        rfl

end Sys2Proof.Proofs
end
